-- ==== Sys2Proof/Word.lean ====
section
/-!
DEFINITION. The words of the wire (R204) and the one container the model uses for the fixed
numbers of like things the manual counts (four presses, 24 zones, sixteen recipe slots ...).
-/

namespace Sys2Proof

/-- One byte of the host link. -/
abbrev Byte := BitVec 8

/-- A two-byte number of a frame body (R204). -/
abbrev Half := BitVec 16

/-- A four-byte number of a frame body (R204). -/
abbrev Word := BitVec 32

/-- A raw count of the load-cell converter: signed 24 bits (chapter 3, Samples and weights). -/
abbrev Count := BitVec 24

/-- A fixed number of like things, numbered from 0. -/
structure Tab (α : Type) (n : Nat) where
  /-- The entries, number 0 first. -/
  toList : List α
  /-- There are `n` of them. -/
  size : toList.length = n
deriving DecidableEq, Repr

/-- The table whose entry `i` is `f i`. -/
def Tab.build {α : Type} {n : Nat} (f : Fin n → α) : Tab α n := ⟨List.ofFn f, List.length_ofFn⟩

/-- Entry `i`. -/
def Tab.get {α : Type} {n : Nat} (t : Tab α n) (i : Fin n) : α :=
  t.toList[i.val]'(by rw [t.size]; exact i.isLt)

/-- The table with every entry the same. -/
def Tab.fill {α : Type} {n : Nat} (a : α) : Tab α n := Tab.build fun _ => a

/-- The table with entry `i` replaced. -/
def Tab.set {α : Type} {n : Nat} (t : Tab α n) (i : Fin n) (a : α) : Tab α n :=
  ⟨t.toList.set i.val a, by rw [List.length_set]; exact t.size⟩

/-- The table with entry `i` changed by `f`. -/
def Tab.modify {α : Type} {n : Nat} (t : Tab α n) (i : Fin n) (f : α → α) : Tab α n :=
  t.set i (f (t.get i))

/-- Every entry changed by `f`, which is told the entry's number. -/
def Tab.mapWith {α β : Type} {n : Nat} (f : Fin n → α → β) (t : Tab α n) : Tab β n :=
  Tab.build fun i => f i (t.get i)

@[simp] theorem Tab.get_build {α : Type} {n : Nat} (f : Fin n → α) (i : Fin n) :
    (Tab.build f).get i = f i := by
  simp [Tab.build, Tab.get]

@[simp] theorem Tab.get_fill {α : Type} {n : Nat} (a : α) (i : Fin n) :
    (Tab.fill a : Tab α n).get i = a := by
  simp [Tab.fill]

@[simp] theorem Tab.get_mapWith {α β : Type} {n : Nat} (f : Fin n → α → β) (t : Tab α n) (i : Fin n) :
    (t.mapWith f).get i = f i (t.get i) := by
  simp [Tab.mapWith]

theorem Tab.get_set {α : Type} {n : Nat} (t : Tab α n) (i j : Fin n) (a : α) :
    (t.set i a).get j = if j = i then a else t.get j := by
  by_cases h : j = i
  · subst h; simp [Tab.set, Tab.get]
  · have h' : i.val ≠ j.val := fun e => h (Fin.ext e.symm)
    simp [Tab.set, Tab.get, h, h']

@[simp] theorem Tab.get_set_same {α : Type} {n : Nat} (t : Tab α n) (i : Fin n) (a : α) :
    (t.set i a).get i = a := by
  simp [Tab.get_set]

@[simp] theorem Tab.get_set_other {α : Type} {n : Nat} (t : Tab α n) {i j : Fin n} (h : j ≠ i) (a : α) :
    (t.set i a).get j = t.get j := by
  simp [Tab.get_set, h]

theorem Tab.get_modify {α : Type} {n : Nat} (t : Tab α n) (i j : Fin n) (f : α → α) :
    (t.modify i f).get j = if j = i then f (t.get i) else t.get j := by
  simp [Tab.modify, Tab.get_set]

@[simp] theorem Tab.get_modify_same {α : Type} {n : Nat} (t : Tab α n) (i : Fin n) (f : α → α) :
    (t.modify i f).get i = f (t.get i) := by
  simp [Tab.get_modify]

@[simp] theorem Tab.get_modify_other {α : Type} {n : Nat} (t : Tab α n) {i j : Fin n} (h : j ≠ i)
    (f : α → α) : (t.modify i f).get j = t.get j := by
  simp [Tab.get_modify, h]

theorem Tab.ext_get {α : Type} {n : Nat} {t u : Tab α n} (h : ∀ i, t.get i = u.get i) : t = u := by
  obtain ⟨l, hl⟩ := t
  obtain ⟨m, hm⟩ := u
  have e : l = m := by
    apply List.ext_getElem (by rw [hl, hm])
    intro k h1 h2
    simpa [Tab.get] using h ⟨k, by rw [← hl]; exact h1⟩
  subst e; rfl

end Sys2Proof
end

