-- ==== Sys2Proof/Syntax.lean ====
section
/-!
DEFINITION. The commands of the PX480: one constructor of `Instr` for each row of
spec/opcode_table.json. The first 36 are the requests of the cell computer (chapter 11, R205), each
carrying the request's tag and the fields of its body as they travel (raw bytes: a value the layout
can hold but the owner's rule does not allow is dealt with by that rule, R204). The other 36 are the
events of the line, the plant, the timers and the supply.
-/

namespace Sys2Proof

/-- One segment entry of the recipe record as it travels (chapter 11, The recipe record). -/
structure RawSegment where
  target : Half
  rate : Half
  hold : Half
  endKind : Byte
deriving DecidableEq, Repr

/-- One band entry of the recipe record as it travels. -/
structure RawBand where
  lower : Half
  weight : Half
deriving DecidableEq, Repr

/-- The recipe record of 141 bytes as it travels in WRITE_RECIPE (chapter 11, The recipe record). -/
structure RawRecipe where
  name : Tab Byte 12
  nominal : Half
  tolerance : Half
  potLife : Half
  segmentCount : Byte
  restSegment : Byte
  segments : Tab RawSegment 8
  offsets : Tab Half 6
  readyBand : Half
  bandCount : Byte
  bands : Tab RawBand 8
  cureTarget : Half
  minCure : Half
  maxCure : Half
  overcure : Half
  autoOpen : Byte
  closeTimeout : Half
  openTimeout : Half
  minOpen : Half
  demouldTries : Byte
  strokeTimeout : Half
deriving DecidableEq, Repr

/-- A reading of the thermocouple scanner (R2): marked open-circuit or unconverted, or a temperature in
tenths of a degree. -/
inductive Reading where
  | broken
  | valid (tenths : Int)
deriving DecidableEq, Repr

/-- The levels of the six inputs of one press (R71), `true` for high. -/
structure PressInputs where
  openLimit : Bool
  closedLimit : Bool
  tonnageOk : Bool
  ejectHome : Bool
  ejectOut : Bool
  partFree : Bool
deriving DecidableEq, Repr

/-- The two inputs whose fall in CURING begins a pressure dip (R84). -/
inductive DipInput where
  | closedLimit
  | tonnageOk
deriving DecidableEq, Repr

/-- The commands of the block, in the order of spec/opcode_table.json.

A press input event carries, besides the press, the levels of the press's six inputs after the event;
the input the row is named for stands in that event as the row says, whatever the operand gives for it.
`guardRise` says that GUARD_OK has come back high by then (the table has no row for that rise, which by
R72 changes nothing but the level). -/
inductive Instr where
  -- requests of the cell computer (chapter 11, R205); `tag` is the request's tag
  | identify (tag : Byte)
  | cellStatus (tag : Byte)
  | restart (tag : Byte)
  | setClock (tag : Byte) (seconds : Word)
  | readClock (tag : Byte)
  | readEvents (tag : Byte)
  | maskEvents (tag : Byte) (mode : Byte) (kinds : List Byte)
  | getSetting (tag : Byte) (ident : Byte)
  | setSetting (tag : Byte) (ident : Byte) (value : Word)
  | setTuning (tag : Byte) (zone kp ki : Byte)
  | writeRecipe (tag : Byte) (slot : Byte) (recipe : RawRecipe)
  | readRecipe (tag : Byte) (slot : Byte)
  | assignRecipe (tag : Byte) (press slot : Byte)
  | setHeatMode (tag : Byte) (press mode : Byte) (standby : Half) (held : Byte)
  | readZones (tag : Byte) (press : Byte)
  | clearZone (tag : Byte) (zone : Byte)
  | disableZone (tag : Byte) (zone : Byte)
  | enableZone (tag : Byte) (zone : Byte)
  | postOrder (tag : Byte) (orderTag press : Byte)
  | cancelOrder (tag : Byte) (orderTag : Byte)
  | zeroScale (tag : Byte)
  | readScale (tag : Byte)
  | load (tag : Byte) (press : Byte) (serial : Word)
  | close (tag : Byte) (press : Byte)
  | openPress (tag : Byte) (press : Byte)
  | abort (tag : Byte) (press : Byte)
  | release (tag : Byte) (press : Byte)
  | clearFault (tag : Byte) (press : Byte)
  | readPress (tag : Byte) (press : Byte)
  | readHistory (tag : Byte) (start : Half) (count : Byte)
  | collect (tag : Byte) (n : Half)
  | annotate (tag : Byte) (serial : Word) (result inspector : Byte)
  | readOpen (tag : Byte) (serial : Word)
  | store (tag : Byte)
  | snapshotCounters (tag : Byte) (press clear : Byte)
  | readCounters (tag : Byte) (press : Byte)
  -- the line receiver and transmitter
  /-- A complete frame with this kind, tag and body, and the CRC that matches them. -/
  | goodFrame (kind tag : Byte) (body : List Byte)
  /-- A complete frame whose two CRC bytes are `crc`, which does not match. -/
  | badCrcFrame (kind tag : Byte) (body : List Byte) (crc : Half)
  /-- A frame with a length byte above 240, its kind and tag, and the bytes that follow the tag. -/
  | overLengthFrame (len kind tag : Byte) (rest : List Byte)
  /-- The bytes received since the last frame ended, and then more than 10 ms without a byte. -/
  | interbyteGapTimeout (bytes : List Byte)
  /-- The bytes received since the last frame ended, and then a byte with no stop bit. -/
  | framingError (bytes : List Byte)
  | transmitComplete
  -- heat
  | thermocoupleReading (zone : Fin 24) (reading : Reading)
  | heatFrameBoundary
  | heaterSlot
  -- the scale
  | goodSample (count : Count)
  | faultedSample
  | settleTimeout
  -- the presses
  /-- The pot life of the queued ticket with this serial expires. -/
  | ticketPotLifeExpiry (press : Fin 4) (serial : Word)
  | boundPotLifeExpiry (press : Fin 4)
  | curingConditionMet (press : Fin 4) (levels : PressInputs) (guardRise : Bool)
  | pressureDip (press : Fin 4) (fallen : DipInput) (levels : PressInputs) (guardRise : Bool)
  | guardOkFall
  | openLimitMet (press : Fin 4) (levels : PressInputs) (guardRise : Bool)
  | ejectOutMet (press : Fin 4) (levels : PressInputs) (guardRise : Bool)
  | ejectHomeMet (press : Fin 4) (levels : PressInputs) (guardRise : Bool)
  | openLimitDrift (press : Fin 4) (levels : PressInputs) (guardRise : Bool)
  | keyChange (level : Bool)
  | closeTimerExpiry (press : Fin 4)
  | openTimerExpiry (press : Fin 4)
  | strokeTimerExpiry (press : Fin 4)
  | minimumOpenExpiry (press : Fin 4)
  -- retained memory, supply, resets, clock
  | storeComplete
  | periodicStoreExpiry
  | pfailRise
  /-- Power is applied, with PFAIL at this level, or PFAIL falls (`pfail` false). -/
  | powerOnReset (pfail : Bool)
  | recallComplete
  | resetLineLow
  | resetLineHigh
  | clockTick
  | pressureDipEnd (press : Fin 4) (levels : PressInputs) (guardRise : Bool)
  | supplyLost
deriving DecidableEq, Repr

end Sys2Proof
end

