-- ==== Sys2Proof/Decode.lean ====
section
/-!
DEFINITION. The wire: numbers as bytes (R204), the CRC (R190), the request bodies (R205), and the
host's question about table words. The opcode table gives its rows no bits, so
`decodeTableWord` answers none; what spells a command on this hardware is a frame's kind, tag and
body, which `Instr.request?` writes and `parseRequest` reads.
-/

namespace Sys2Proof

/-! ## Numbers as bytes (R204) -/

/-- The two bytes of a number, high byte first. -/
def halfBytes (h : Half) : List Byte := [h.extractLsb' 8 8, h.extractLsb' 0 8]

/-- The four bytes of a number, high byte first. -/
def wordBytes (w : Word) : List Byte :=
  [w.extractLsb' 24 8, w.extractLsb' 16 8, w.extractLsb' 8 8, w.extractLsb' 0 8]

/-- The number of two bytes, high byte first. -/
def halfOf (hi lo : Byte) : Half := hi ++ lo

/-- The number of four bytes, high byte first. -/
def wordOf (a b c d : Byte) : Word := (a ++ b) ++ (c ++ d)

/-- An unsigned field of one byte. -/
def be8 (n : Nat) : List Byte := [BitVec.ofNat 8 n]

/-- An unsigned field of two bytes. -/
def be16 (n : Nat) : List Byte := halfBytes (BitVec.ofNat 16 n)

/-- An unsigned field of four bytes. -/
def be32 (n : Nat) : List Byte := wordBytes (BitVec.ofNat 32 n)

/-- A signed field of one byte. -/
def sbe8 (i : Int) : List Byte := [BitVec.ofInt 8 i]

/-- A signed field of two bytes. -/
def sbe16 (i : Int) : List Byte := halfBytes (BitVec.ofInt 16 i)

/-- A signed field of four bytes. -/
def sbe32 (i : Int) : List Byte := wordBytes (BitVec.ofInt 32 i)

/-- A mark or a yes/no field: 0 clear or no, 1 set or yes (R205). -/
def beBool (b : Bool) : List Byte := [if b then 1 else 0]

/-! ## The CRC (R190) -/

/-- One bit of the CRC: polynomial 0x1021, most significant bit first, not reflected. -/
def crcBit (c : Half) : Half := if c.msb then (c <<< 1) ^^^ 0x1021 else c <<< 1

/-- One byte of the CRC. -/
def crcByte (c : Half) (b : Byte) : Half :=
  crcBit (crcBit (crcBit (crcBit (crcBit (crcBit (crcBit (crcBit (c ^^^ (b ++ 0#8)))))))))

/-- The CRC of a run of bytes, from the initial value 0xFFFF, with no final inversion. -/
def crc16 (bytes : List Byte) : Half := bytes.foldl crcByte 0xFFFF

/-- The bytes a CRC is computed over: length, kind, tag and body (R190). -/
def crcSpan (kind tag : Byte) (body : List Byte) : List Byte :=
  BitVec.ofNat 8 body.length :: kind :: tag :: body

/-- The start byte of a frame. -/
def startByte : Byte := 0xA5

/-- A frame with these two CRC bytes (chapter 11, The frame). -/
def frameWithCrc (kind tag : Byte) (body : List Byte) (crc : Half) : List Byte :=
  startByte :: crcSpan kind tag body ++ halfBytes crc

/-- A frame with the CRC that matches it. -/
def frameBytes (kind tag : Byte) (body : List Byte) : List Byte :=
  frameWithCrc kind tag body (crc16 (crcSpan kind tag body))

/-! ## Kinds and body lengths (R205) -/

/-- The least and the greatest body length the Link Port accepts for a kind; none for a kind that is not in
the message table (R191, R193, R205). -/
def bodyLengths (kind : Byte) : Option (Nat × Nat) :=
  match kind.toNat with
  | 0x01 => some (0, 0)
  | 0x02 => some (0, 0)
  | 0x03 => some (0, 0)
  | 0x04 => some (4, 4)
  | 0x05 => some (0, 0)
  | 0x06 => some (0, 0)
  | 0x07 => some (1, 21)
  | 0x10 => some (1, 1)
  | 0x11 => some (5, 5)
  | 0x12 => some (3, 3)
  | 0x13 => some (142, 142)
  | 0x14 => some (1, 1)
  | 0x15 => some (2, 2)
  | 0x18 => some (5, 5)
  | 0x19 => some (1, 1)
  | 0x1A => some (1, 1)
  | 0x1B => some (1, 1)
  | 0x1C => some (1, 1)
  | 0x20 => some (2, 2)
  | 0x21 => some (1, 1)
  | 0x22 => some (0, 0)
  | 0x23 => some (0, 0)
  | 0x28 => some (5, 5)
  | 0x29 => some (1, 1)
  | 0x2A => some (1, 1)
  | 0x2B => some (1, 1)
  | 0x2C => some (1, 1)
  | 0x2D => some (1, 1)
  | 0x2E => some (1, 1)
  | 0x30 => some (3, 3)
  | 0x31 => some (2, 2)
  | 0x32 => some (6, 6)
  | 0x33 => some (4, 4)
  | 0x34 => some (0, 0)
  | 0x35 => some (2, 2)
  | 0x36 => some (1, 1)
  | _ => none

/-- The kind is in the message table of chapter 11. -/
def kindKnown (kind : Byte) : Bool := (bodyLengths kind).isSome

/-- The body length is accepted for the kind (R205). -/
def lengthAccepted (kind : Byte) (n : Nat) : Bool :=
  match bodyLengths kind with
  | some (lo, hi) => decide (lo ≤ n) && decide (n ≤ hi)
  | none => false

/-! ## Request bodies (R205) -/

/-- A segment entry's seven bytes. -/
def RawSegment.bytes (g : RawSegment) : List Byte :=
  halfBytes g.target ++ halfBytes g.rate ++ halfBytes g.hold ++ [g.endKind]

/-- A band entry's four bytes. -/
def RawBand.bytes (b : RawBand) : List Byte := halfBytes b.lower ++ halfBytes b.weight

/-- The recipe record's 141 bytes (chapter 11, The recipe record). -/
def RawRecipe.bytes (r : RawRecipe) : List Byte :=
  r.name.toList ++ halfBytes r.nominal ++ halfBytes r.tolerance ++ halfBytes r.potLife ++
  [r.segmentCount, r.restSegment] ++ r.segments.toList.flatMap RawSegment.bytes ++
  r.offsets.toList.flatMap halfBytes ++ halfBytes r.readyBand ++ [r.bandCount] ++
  r.bands.toList.flatMap RawBand.bytes ++ halfBytes r.cureTarget ++ halfBytes r.minCure ++
  halfBytes r.maxCure ++ halfBytes r.overcure ++ [r.autoOpen] ++ halfBytes r.closeTimeout ++
  halfBytes r.openTimeout ++ halfBytes r.minOpen ++ [r.demouldTries] ++ halfBytes r.strokeTimeout

/-- A request's kind, tag and body bytes (R205); none for an event, which is no frame of the host. -/
def Instr.request? : Instr → Option (Byte × Byte × List Byte)
  | .identify t => some (0x01, t, [])
  | .cellStatus t => some (0x02, t, [])
  | .restart t => some (0x03, t, [])
  | .setClock t seconds => some (0x04, t, wordBytes seconds)
  | .readClock t => some (0x05, t, [])
  | .readEvents t => some (0x06, t, [])
  | .maskEvents t mode kinds => some (0x07, t, mode :: kinds)
  | .getSetting t ident => some (0x10, t, [ident])
  | .setSetting t ident value => some (0x11, t, ident :: wordBytes value)
  | .setTuning t zone kp ki => some (0x12, t, [zone, kp, ki])
  | .writeRecipe t slot recipe => some (0x13, t, slot :: recipe.bytes)
  | .readRecipe t slot => some (0x14, t, [slot])
  | .assignRecipe t press slot => some (0x15, t, [press, slot])
  | .setHeatMode t press mode standby held => some (0x18, t, press :: mode :: (halfBytes standby ++ [held]))
  | .readZones t press => some (0x19, t, [press])
  | .clearZone t zone => some (0x1A, t, [zone])
  | .disableZone t zone => some (0x1B, t, [zone])
  | .enableZone t zone => some (0x1C, t, [zone])
  | .postOrder t orderTag press => some (0x20, t, [orderTag, press])
  | .cancelOrder t orderTag => some (0x21, t, [orderTag])
  | .zeroScale t => some (0x22, t, [])
  | .readScale t => some (0x23, t, [])
  | .load t press serial => some (0x28, t, press :: wordBytes serial)
  | .close t press => some (0x29, t, [press])
  | .openPress t press => some (0x2A, t, [press])
  | .abort t press => some (0x2B, t, [press])
  | .release t press => some (0x2C, t, [press])
  | .clearFault t press => some (0x2D, t, [press])
  | .readPress t press => some (0x2E, t, [press])
  | .readHistory t start count => some (0x30, t, halfBytes start ++ [count])
  | .collect t n => some (0x31, t, halfBytes n)
  | .annotate t serial result inspector => some (0x32, t, wordBytes serial ++ [result, inspector])
  | .readOpen t serial => some (0x33, t, wordBytes serial)
  | .store t => some (0x34, t, [])
  | .snapshotCounters t press clear => some (0x35, t, [press, clear])
  | .readCounters t press => some (0x36, t, [press])
  | .goodFrame _ _ _ => none
  | .badCrcFrame _ _ _ _ => none
  | .overLengthFrame _ _ _ _ => none
  | .interbyteGapTimeout _ => none
  | .framingError _ => none
  | .transmitComplete => none
  | .thermocoupleReading _ _ => none
  | .heatFrameBoundary => none
  | .heaterSlot => none
  | .goodSample _ => none
  | .faultedSample => none
  | .settleTimeout => none
  | .ticketPotLifeExpiry _ _ => none
  | .boundPotLifeExpiry _ => none
  | .curingConditionMet _ _ _ => none
  | .pressureDip _ _ _ _ => none
  | .guardOkFall => none
  | .openLimitMet _ _ _ => none
  | .ejectOutMet _ _ _ => none
  | .ejectHomeMet _ _ _ => none
  | .openLimitDrift _ _ _ => none
  | .keyChange _ => none
  | .closeTimerExpiry _ => none
  | .openTimerExpiry _ => none
  | .strokeTimerExpiry _ => none
  | .minimumOpenExpiry _ => none
  | .storeComplete => none
  | .periodicStoreExpiry => none
  | .pfailRise => none
  | .powerOnReset _ => none
  | .recallComplete => none
  | .resetLineLow => none
  | .resetLineHigh => none
  | .clockTick => none
  | .pressureDipEnd _ _ _ => none
  | .supplyLost => none

/-! ### Reading a body -/

/-- The next byte. -/
def takeByte : List Byte → Option (Byte × List Byte)
  | b :: rest => some (b, rest)
  | [] => none

/-- The next two-byte number. -/
def takeHalf : List Byte → Option (Half × List Byte)
  | a :: b :: rest => some (halfOf a b, rest)
  | _ => none

/-- The next seven bytes as a segment entry. -/
def takeSegment : List Byte → Option (RawSegment × List Byte)
  | a :: b :: c :: d :: e :: f :: g :: rest => some (⟨halfOf a b, halfOf c d, halfOf e f, g⟩, rest)
  | _ => none

/-- The next four bytes as a band entry. -/
def takeBand : List Byte → Option (RawBand × List Byte)
  | a :: b :: c :: d :: rest => some (⟨halfOf a b, halfOf c d⟩, rest)
  | _ => none

/-- `n` entries, one after another. -/
def takeList {α : Type} (one : List Byte → Option (α × List Byte)) :
    Nat → List Byte → Option (List α × List Byte)
  | 0, bytes => some ([], bytes)
  | n + 1, bytes =>
    match one bytes with
    | none => none
    | some (a, rest) =>
      match takeList one n rest with
      | none => none
      | some (as, rest') => some (a :: as, rest')

/-- A table of `n` entries. -/
def takeTab {α : Type} (one : List Byte → Option (α × List Byte)) (n : Nat) (bytes : List Byte) :
    Option (Tab α n × List Byte) :=
  match takeList one n bytes with
  | none => none
  | some (as, rest) => if h : as.length = n then some (⟨as, h⟩, rest) else none

/-- The recipe record of 141 bytes, and nothing after it. -/
def parseRecipe (bytes : List Byte) : Option RawRecipe := do
  let (name, b) ← takeTab takeByte 12 bytes
  let (nominal, b) ← takeHalf b
  let (tolerance, b) ← takeHalf b
  let (potLife, b) ← takeHalf b
  let (segmentCount, b) ← takeByte b
  let (restSegment, b) ← takeByte b
  let (segments, b) ← takeTab takeSegment 8 b
  let (offsets, b) ← takeTab takeHalf 6 b
  let (readyBand, b) ← takeHalf b
  let (bandCount, b) ← takeByte b
  let (bands, b) ← takeTab takeBand 8 b
  let (cureTarget, b) ← takeHalf b
  let (minCure, b) ← takeHalf b
  let (maxCure, b) ← takeHalf b
  let (overcure, b) ← takeHalf b
  let (autoOpen, b) ← takeByte b
  let (closeTimeout, b) ← takeHalf b
  let (openTimeout, b) ← takeHalf b
  let (minOpen, b) ← takeHalf b
  let (demouldTries, b) ← takeByte b
  let (strokeTimeout, b) ← takeHalf b
  if b = [] then
    some { name, nominal, tolerance, potLife, segmentCount, restSegment, segments, offsets, readyBand,
           bandCount, bands, cureTarget, minCure, maxCure, overcure, autoOpen, closeTimeout,
           openTimeout, minOpen, demouldTries, strokeTimeout }
  else none

/-- A body of no bytes. -/
def body0 (i : Instr) : List Byte → Option Instr
  | [] => some i
  | _ => none

/-- A body of one byte. -/
def body1 (i : Byte → Instr) : List Byte → Option Instr
  | [a] => some (i a)
  | _ => none

/-- A body of two bytes. -/
def body2 (i : Byte → Byte → Instr) : List Byte → Option Instr
  | [a, b] => some (i a b)
  | _ => none

/-- A body of three bytes. -/
def body3 (i : Byte → Byte → Byte → Instr) : List Byte → Option Instr
  | [a, b, c] => some (i a b c)
  | _ => none

/-- A body of one four-byte number. -/
def bodyWord (i : Word → Instr) : List Byte → Option Instr
  | [a, b, c, d] => some (i (wordOf a b c d))
  | _ => none

/-- A body of one byte and a four-byte number. -/
def bodyByteWord (i : Byte → Word → Instr) : List Byte → Option Instr
  | [x, a, b, c, d] => some (i x (wordOf a b c d))
  | _ => none

/-- The request a frame's kind, tag and body spell, by the layouts of R205. -/
def parseRequest (kind tag : Byte) (body : List Byte) : Option Instr :=
  match kind.toNat with
  | 0x01 => body0 (.identify tag) body
  | 0x02 => body0 (.cellStatus tag) body
  | 0x03 => body0 (.restart tag) body
  | 0x04 => bodyWord (.setClock tag) body
  | 0x05 => body0 (.readClock tag) body
  | 0x06 => body0 (.readEvents tag) body
  | 0x07 =>
    match body with
    | mode :: kinds => if kinds.length ≤ 20 then some (.maskEvents tag mode kinds) else none
    | [] => none
  | 0x10 => body1 (.getSetting tag) body
  | 0x11 => bodyByteWord (.setSetting tag) body
  | 0x12 => body3 (.setTuning tag) body
  | 0x13 =>
    match body with
    | slot :: record => (parseRecipe record).map (.writeRecipe tag slot)
    | [] => none
  | 0x14 => body1 (.readRecipe tag) body
  | 0x15 => body2 (.assignRecipe tag) body
  | 0x18 =>
    match body with
    | [press, mode, a, b, held] => some (.setHeatMode tag press mode (halfOf a b) held)
    | _ => none
  | 0x19 => body1 (.readZones tag) body
  | 0x1A => body1 (.clearZone tag) body
  | 0x1B => body1 (.disableZone tag) body
  | 0x1C => body1 (.enableZone tag) body
  | 0x20 => body2 (.postOrder tag) body
  | 0x21 => body1 (.cancelOrder tag) body
  | 0x22 => body0 (.zeroScale tag) body
  | 0x23 => body0 (.readScale tag) body
  | 0x28 => bodyByteWord (.load tag) body
  | 0x29 => body1 (.close tag) body
  | 0x2A => body1 (.openPress tag) body
  | 0x2B => body1 (.abort tag) body
  | 0x2C => body1 (.release tag) body
  | 0x2D => body1 (.clearFault tag) body
  | 0x2E => body1 (.readPress tag) body
  | 0x30 => body3 (fun a b count => .readHistory tag (halfOf a b) count) body
  | 0x31 => body2 (fun a b => .collect tag (halfOf a b)) body
  | 0x32 =>
    match body with
    | [a, b, c, d, result, inspector] => some (.annotate tag (wordOf a b c d) result inspector)
    | _ => none
  | 0x33 => bodyWord (.readOpen tag) body
  | 0x34 => body0 (.store tag) body
  | 0x35 => body2 (.snapshotCounters tag) body
  | 0x36 => body1 (.readCounters tag) body
  | _ => none

/-- The command a word of the opcode table spells: the table gives no row any bits, so no word spells one
(log entry 3). -/
def decodeTableWord (_nbits _w : Nat) : Option Instr := none

end Sys2Proof
end

