-- ==== Sys2Proof/Config.lean ====
section
/-!
DEFINITION. What is fixed in the part, and the free value of the model.
-/

namespace Sys2Proof.Config

/-- The vendor code IDENTIFY returns (R200). -/
def vendorCode : Nat := 0x0E71

/-- The part code (R200). -/
def partCode : Nat := 0x0480

/-- The silicon revision (R200). -/
def siliconRevision : Nat := 3

/-- The history ring has 1024 places, and the room is reckoned against them (R131, R132). -/
def historyPlaces : Nat := 1024

/-- The open record table has 12 entries (R122). -/
def openEntries : Nat := 12

/-- The weigh order queue holds at most 8 orders (R52). -/
def orderPlaces : Nat := 8

/-- A press's ticket queue holds at most 2 tickets (R74). -/
def ticketPlaces : Nat := 2

/-- The four link rates (R153, R188). -/
def linkRates : List Nat := [9600, 19200, 57600, 115200]

/-- The default link rate (R153). -/
def defaultLinkRate : Nat := 115200

/-- UNVERIFIED, safe. The link rate field of a stored image whose copy is bad, at its `n`th reading. R153
reads that field 'as it stands', and no rule says what a copy that was never written, or whose
writing the loss of supply cut short, holds there: a free value (log entry 7). -/
opaque badCopyLinkRate : Nat → Nat

end Sys2Proof.Config
end

