-- ==== Sys2Proof/Machine/State.lean ====
section
/-!
DEFINITION. The state of the PX480, as plain data, and the state right after a power-on reset. Each
field names the rule of spec/ that gives it; INVENTORY.md lists them with their reset values.
-/

namespace Sys2Proof.Machine

/-! ## Heat (chapters 1 and 2) -/

/-- The five zone states (R1). -/
inductive ZoneState where
  | off | active | held | fault | disabled
deriving DecidableEq, Repr

/-- Why a zone faulted (R17): BREAK or OVERTEMP. -/
inductive ZoneFault where
  | break_ | overtemp
deriving DecidableEq, Repr

/-- A press's heat mode (R5). -/
inductive HeatMode where
  | off | run | standby
deriving DecidableEq, Repr

/-- The zone record (chapter 1, Zone record), with the latest reading (R2), the placement of the running
frame (R38) and the heater output (R39). -/
structure Zone where
  state : ZoneState
  /-- present in FAULT only -/
  cause : Option ZoneFault
  /-- the reading taken at the last boundary, tenths of a degree -/
  pv : Int
  /-- the reading flag: `true` VALID, `false` BROKEN -/
  valid : Bool
  /-- setpoint -/
  sp : Int
  /-- integrator I, sixteenths of a per mille -/
  integ : Int
  /-- demand D -/
  demand : Int
  /-- requested slots r -/
  requested : Int
  /-- granted slots g of the running frame -/
  granted : Int
  carry : Int
  /-- starved-slot total -/
  starved : Nat
  /-- the latest reading, until a boundary consumes it (R2, R3) -/
  latest : Option Reading
  /-- the first position of the zone's run in the running frame (R38) -/
  start : Nat
  /-- the heater output, `true` for on -/
  out : Bool
deriving DecidableEq, Repr

/-- The phase of a profile segment (R10, R11). -/
inductive ProfilePhase where
  | ramp | hold
deriving DecidableEq, Repr

/-- The profile state of a press (chapter 1, Heat profiles). -/
structure Profile where
  segment : Nat
  phase : ProfilePhase
  secondsHeld : Nat
  sp : Int
  closeMark : Bool
  openMark : Bool
deriving DecidableEq, Repr

/-- The heat mode of a press with its standby figures (R5), its profile and its ready flag (R23). -/
structure PressHeat where
  mode : HeatMode
  standby : Int
  /-- the held set: which of positions 0 to 5 are held in STANDBY -/
  heldSet : Tab Bool 6
  profile : Profile
  ready : Bool
deriving DecidableEq, Repr

/-- The Power Allocator's own figures (R27, R31) and the place in the running frame (R26). -/
structure Alloc where
  /-- the round-robin pointer -/
  pointer : Fin 24
  /-- the demand limit in force; none until the first boundary (R42) -/
  limit : Option Nat
  /-- the slot the next HEATER_SLOT begins; 20 once the frame's slots are over, or before any frame -/
  slot : Nat
deriving DecidableEq, Repr

/-! ## Weighing (chapter 3) -/

/-- The six station states. -/
inductive StationState where
  | unzeroed | empty | waiting | settling | removal | fault
deriving DecidableEq, Repr

/-- One entry of the filter window (R44). -/
structure Entry where
  net : Int
  weight : Int
  isOver : Bool
deriving DecidableEq, Repr

/-- A weigh order: its tag and its press. -/
structure Order where
  tag : Byte
  press : Fin 4
deriving DecidableEq, Repr

/-- The Weigh Station (R69's table). -/
structure Station where
  state : StationState
  /-- the last good samples, at most 8, oldest first -/
  window : List Entry
  /-- the last averages, at most 25, oldest first -/
  averages : List Int
  /-- whether the scale was stable as last tested at a sample (R45, R68); false once the window is emptied -/
  stable : Bool
  offset : Int
  chargesSinceZero : Nat
  zeroDue : Bool
  postponements : Nat
  /-- queued orders, oldest first -/
  queue : List Order
  current : Option Order
  /-- the settle timer: milliseconds left while it runs -/
  settle : Option Nat
  /-- the captured-tag set, ascending -/
  captured : List Nat
  orderDrops : Nat
deriving DecidableEq, Repr

/-! ## The press cycle and the cure (chapters 4 and 5) -/

/-- The eight press states (R70). -/
inductive PressState where
  | idle | loaded | closing | curing | opening | ejecting | unload | fault
deriving DecidableEq, Repr

/-- The fault causes of a press (R70). -/
inductive PressFault where
  | closeTimeout | openTimeout | ejectTimeout | stuckPart | guard | drift | reset
deriving DecidableEq, Repr

/-- A ticket: serial, order tag, and its pot-life timer in milliseconds left (R74). -/
structure Ticket where
  serial : Nat
  tag : Byte
  pot : Nat
deriving DecidableEq, Repr

/-- The bound part (R70); its record is found by the serial. The timer is none once expired or stopped. -/
structure Bound where
  serial : Nat
  tag : Byte
  pot : Option Nat
deriving DecidableEq, Repr

/-- The two phases of an ejector stroke (R91). -/
inductive StrokePhase where
  | out | back
deriving DecidableEq, Repr

/-- The stroke in progress: the stroke count and the phase (R91). -/
structure Stroke where
  count : Nat
  phase : StrokePhase
deriving DecidableEq, Repr

/-- The three valve outputs (R73), `true` for on. -/
structure Valves where
  close : Bool
  open_ : Bool
  eject : Bool
deriving DecidableEq, Repr

/-- The cure verdict (R114). -/
inductive Verdict where
  | under | normal | over_
deriving DecidableEq, Repr

/-- The Cure Accountant's state (chapter 5, its first table). -/
structure Cure where
  credit : Nat
  target : Nat
  wall : Nat
  frozen : Nat
  coldMin : Option Int
  coldMax : Option Int
  loss : Bool
  done : Bool
  limit : Bool
  verdict : Option Verdict
deriving DecidableEq, Repr

/-- A Press Sequencer with its Cure Accountant. Timers are milliseconds left while they run. -/
structure Press where
  state : PressState
  cause : Option PressFault
  /-- the ticket queue, head first -/
  tickets : List Ticket
  bound : Option Bound
  closeTimer : Option Nat
  openTimer : Option Nat
  strokeTimer : Option Nat
  /-- the minimum-open timer; none when elapsed -/
  minOpen : Option Nat
  stroke : Option Stroke
  dip : Bool
  valves : Valves
  cure : Cure
deriving DecidableEq, Repr

/-! ## Records, history, counters (chapters 6 and 9) -/

/-- The cure summary of a record (chapter 5, The cure summary). -/
structure CureSummary where
  closeTime : Option Nat
  wall : Nat
  credit : Nat
  target : Nat
  coldMin : Option Int
  coldMax : Option Int
  frozen : Nat
  shortfall : Nat
  dips : Nat
  verdict : Option Verdict
deriving DecidableEq, Repr

/-- The demould summary (R92). -/
structure Demould where
  strokes : Nat
  cameFree : Bool
deriving DecidableEq, Repr

/-- The dispositions (R129, R130). -/
inductive Disposition where
  | rejectLight | rejectHeavy | scrapExpired | scrapAborted | scrapFault | scrapReset | scrapPower
  | suspect | good
deriving DecidableEq, Repr

/-- An annotation: PASS (`true`) or FAIL, and the inspector code (R136). -/
structure Annotation where
  pass : Bool
  inspector : Byte
deriving DecidableEq, Repr

/-- A part record (chapter 6, The part record). -/
structure Record where
  serial : Nat
  press : Fin 4
  slot : Fin 16
  revision : Nat
  tag : Byte
  weight : Int
  deviation : Int
  weighTime : Option Nat
  loadTime : Option Nat
  cure : Option CureSummary
  demould : Option Demould
  disposition : Option Disposition
  cause : Option PressFault
  closingTime : Option Nat
  annotation : Option Annotation
deriving DecidableEq, Repr

/-- An open record with its working marks (R121). -/
structure OpenRecord where
  record : Record
  aborted : Bool
  expired : Bool
deriving DecidableEq, Repr

/-- The history ring (R131): its places, listed by place number, strictly rising, with the empty places
unlisted; the oldest-uncollected position P; the uncollected count U. -/
structure Ring where
  places : List (Nat × Record)
  oldest : Nat
  count : Nat
deriving DecidableEq, Repr

/-- A live counter with its saturation marker (R178). -/
structure Counter where
  n : Nat
  saturated : Bool
deriving DecidableEq, Repr

/-- The six counters of a press (chapter 9). -/
structure Counters where
  cycles : Counter
  good : Counter
  suspect : Counter
  scrap : Counter
  rejects : Counter
  stuck : Counter
deriving DecidableEq, Repr

/-- A snapshot (R180, R182). -/
structure Snapshot where
  counters : Counters
  taken : Bool
  time : Option Nat
  cleared : Bool
deriving DecidableEq, Repr

/-! ## Recipes and settings (chapter 8) -/

/-- The end kind of a profile segment. -/
inductive EndKind where
  | time | atClose | atOpen
deriving DecidableEq, Repr

/-- A segment of a stored recipe. -/
structure Segment where
  target : Nat
  rate : Nat
  hold : Nat
  endKind : EndKind
deriving DecidableEq, Repr

/-- A band of a stored recipe. -/
structure Band where
  lower : Nat
  weight : Nat
deriving DecidableEq, Repr

/-- A stored recipe (chapter 8, The recipe record). -/
structure Recipe where
  name : List Byte
  revision : Nat
  nominal : Nat
  tolerance : Nat
  potLife : Nat
  segmentCount : Nat
  restSegment : Nat
  segments : Tab Segment 8
  offsets : Tab Int 6
  readyBand : Nat
  bandCount : Nat
  bands : Tab Band 8
  cureTarget : Nat
  minCure : Nat
  maxCure : Nat
  overcure : Nat
  autoOpen : Bool
  closeTimeout : Nat
  openTimeout : Nat
  minOpen : Nat
  demouldTries : Nat
  strokeTimeout : Nat
deriving DecidableEq, Repr

/-- A recipe slot: its revision count, held whether it is empty or not (R159), and its recipe. -/
structure Slot where
  revision : Nat
  recipe : Option Recipe
deriving DecidableEq, Repr

/-- The cell settings, identifiers 1 to 17 (chapter 8, Cell settings). -/
structure Settings where
  demandLimit : Nat
  levelling : Bool
  overMargin : Nat
  recipeLock : Bool
  zeroInterval : Nat
  zeroRange : Nat
  autoZeroBand : Nat
  stabilityBand : Nat
  loadThreshold : Nat
  settleTimeout : Nat
  capacity : Nat
  gain : Nat
  calibrationZero : Int
  storeInterval : Nat
  historyWarning : Nat
  linkRate : Nat
  cellNumber : Nat
deriving DecidableEq, Repr

/-- The gains of one zone (R174). -/
structure Tuning where
  kp : Nat
  ki : Nat
deriving DecidableEq, Repr

/-! ## Retained memory (chapter 7) -/

/-- The working image (R144's table). -/
structure Image where
  settings : Settings
  tuning : Tab Tuning 24
  slots : Tab Slot 16
  /-- the recipe slot assigned to each press -/
  assigned : Tab (Option (Fin 16)) 4
  openTable : List OpenRecord
  ring : Ring
  /-- the next-serial counter; none when exhausted (R123) -/
  nextSerial : Option Nat
  counters : Tab Counters 4
deriving DecidableEq, Repr

/-- The non-volatile copy (R145): good, with its image and generation, or bad. The check value itself is
not held: only whether it matches is ever looked at (log entry 6). -/
inductive NvCopy where
  | good (image : Image) (generation : Nat)
  | bad
deriving DecidableEq, Repr

/-- A store in flight: the image as it stood at the start and the noted generation (R147). -/
structure InFlight where
  image : Image
  noted : Nat
deriving DecidableEq, Repr

/-- The reset kind (R158). -/
inductive ResetKind where
  | powerOn | warm
deriving DecidableEq, Repr

/-- The recall result (R154, R155). -/
inductive RecallResult where
  | recalled | defaulted
deriving DecidableEq, Repr

/-- Retained Memory beside the image (R158's table). -/
structure Retained where
  copy : NvCopy
  /-- the change generation -/
  generation : Nat
  storedGeneration : Nat
  /-- none when no store is in flight -/
  store : Option InFlight
  storeAgain : Bool
  /-- the periodic store timer: milliseconds left while it runs -/
  periodic : Option Nat
  resetKind : ResetKind
  recallResult : RecallResult
deriving DecidableEq, Repr

/-! ## Clock and link (chapters 9 and 10) -/

/-- The cell clock (R184). -/
structure Clock where
  value : Nat
  /-- the state: `true` SET -/
  set : Bool
  /-- milliseconds of the running second that have passed (R185: the second restarts at SET_CLOCK) -/
  ms : Nat
deriving DecidableEq, Repr

/-- The 20 event kinds (chapter 10, Events and pending sets). -/
inductive EventKind where
  | cureDone | cureLimit | pressFault | demouldDone | ticketExpired | pressureDip | heatLoss | heatReady
  | zoneFault | shortfall
  | chargeAccepted | chargeRejected | zeroDue | zeroTaken | settleTimeout | scaleFault
  | storeDone | historyHigh | started | memoryDefaulted
deriving DecidableEq, Repr

/-- The condition of the line receiver (R189); in ASSEMBLING, with the frame's bytes after the start byte. -/
inductive Receiver where
  | hunting
  | assembling (got : List Byte)
  | skipping
deriving DecidableEq, Repr

/-- How far the request in hand has come: handed to its owner, answered, or a RESTART taken (R202). -/
inductive Stage where
  | handed | answered | restarting
deriving DecidableEq, Repr

/-- The request in hand (R192). -/
structure InHand where
  kind : Byte
  tag : Byte
  body : List Byte
  stage : Stage
deriving DecidableEq, Repr

/-- A frame the part sends. -/
structure Frame where
  kind : Byte
  tag : Byte
  body : List Byte
deriving DecidableEq, Repr

/-- What the frame in transmission is: the reply to the request in hand, a reply whose request a reset has
dropped (R203), or a notice. -/
inductive Sending where
  | reply | orphan | notice
deriving DecidableEq, Repr

/-- The frame in transmission, with the rate it began at (R188). -/
structure Transmission where
  frame : Frame
  what : Sending
  rate : Nat
deriving DecidableEq, Repr

/-- The Link Port (R203's table). -/
structure Link where
  /-- the link rate in use -/
  rate : Nat
  receiver : Receiver
  inHand : Option InHand
  transmission : Option Transmission
  /-- the reply waiting -/
  reply : Option Frame
  /-- a notice is waiting; its body is formed when its transmission begins (R198) -/
  noticeWaiting : Bool
  discarded : Nat
  /-- the six pending sets in source order, each in code order -/
  pending : Tab (List EventKind) 6
  /-- the event mask: the enabled kinds, in code order -/
  mask : List EventKind
  /-- the notice flag -/
  notice : Bool
deriving DecidableEq, Repr

/-! ## The whole part -/

/-- What the part as a whole is doing (R151 to R153, R157, R207). -/
inductive Phase where
  /-- working -/
  | running
  /-- the start-up recall runs (R153) -/
  | recalling
  /-- power has been applied with PFAIL high; the start-up waits until it falls (R153) -/
  | waiting
  /-- the RESET line is held low (R207) -/
  | held
  /-- power-fall handling, until the part stops: whether its final store has started, and whether PFAIL has fallen
  since it began, so that a start-up is due at the stop (R152) -/
  | powerFall (final fallen : Bool)
  /-- stopped after power-fall handling, or after a recall that PFAIL abandoned -/
  | stopped
  /-- no supply -/
  | unpowered
deriving DecidableEq, Repr

/-- The levels of the plant inputs. -/
structure Lines where
  presses : Tab PressInputs 4
  guardOk : Bool
  key : Bool
deriving DecidableEq, Repr

/-- The state of the PX480. -/
structure State where
  /-- The MODEL's queue: the commands that wait, the next one first. -/
  pending : List Instr
  phase : Phase
  /-- the PFAIL input -/
  pfail : Bool
  /-- the plant input lines -/
  lines : Lines
  /-- their debounced levels, which the blocks read (R71, R207) -/
  inputs : Lines
  zones : Tab Zone 24
  heat : Tab PressHeat 4
  alloc : Alloc
  station : Station
  presses : Tab Press 4
  image : Image
  /-- the HISTORY_HIGH crossing state: `true` RAISED, `false` ARMED (R133) -/
  historyRaised : Bool
  snapshots : Tab Snapshot 4
  retained : Retained
  clock : Clock
  link : Link
  /-- The MODEL's own field, no register of the part: how often a bad copy's rate field has been read; the
  free value `Config.badCopyLinkRate` is applied to it. -/
  freeReads : Nat
deriving DecidableEq, Repr

/-- Why a command stops the machine. The spec gives every command an effect in every state, so no fault
has been needed and the type has no constructor: no command faults (safe). -/
inductive Fault where
deriving DecidableEq, Repr

/-- Why a command is refused. -/
inductive Refusal where
  /-- Raised by no arm of `exec`: every row has its meaning. Kept for an arm without one (safe). -/
  | notModelled (mnemonic : String)
deriving DecidableEq, Repr

/-! ## Defaults and reset values -/

/-- The defaults of the settings table (chapter 8). -/
def Settings.default : Settings :=
  { demandLimit := 12, levelling := true, overMargin := 250, recipeLock := false, zeroInterval := 20,
    zeroRange := 200, autoZeroBand := 10, stabilityBand := 5, loadThreshold := 500, settleTimeout := 10,
    capacity := 30000, gain := 65536, calibrationZero := 0, storeInterval := 300, historyWarning := 960,
    linkRate := 115200, cellNumber := 0 }

/-- A counter at 0 with its marker clear. -/
def Counter.zero : Counter := ⟨0, false⟩

/-- Six counters at 0. -/
def Counters.zero : Counters :=
  ⟨Counter.zero, Counter.zero, Counter.zero, Counter.zero, Counter.zero, Counter.zero⟩

/-- The working image's defaults (R155). -/
def Image.default : Image :=
  { settings := Settings.default, tuning := Tab.fill ⟨40, 4⟩, slots := Tab.fill ⟨0, none⟩,
    assigned := Tab.fill none, openTable := [], ring := ⟨[], 0, 0⟩, nextSerial := some 1,
    counters := Tab.fill Counters.zero }

/-- A zone's power-on values (R25, R42). -/
def Zone.reset : Zone :=
  { state := .off, cause := none, pv := 0, valid := false, sp := 0, integ := 0, demand := 0,
    requested := 0, granted := 0, carry := 0, starved := 0, latest := none, start := 0, out := false }

/-- A profile's reset values (R25). -/
def Profile.reset : Profile := ⟨0, .ramp, 0, 0, false, false⟩

/-- A press's heat values after a reset (R25). -/
def PressHeat.reset : PressHeat := ⟨.off, 0, Tab.fill false, Profile.reset, false⟩

/-- The allocator after a reset (R42). -/
def Alloc.reset : Alloc := ⟨0, none, 20⟩

/-- The Weigh Station after a reset that found this calibration zero (R69). -/
def Station.reset (calibrationZero : Int) : Station :=
  { state := .unzeroed, window := [], averages := [], stable := false, offset := calibrationZero,
    chargesSinceZero := 0, zeroDue := false, postponements := 0, queue := [], current := none,
    settle := none, captured := [], orderDrops := 0 }

/-- The Cure Accountant after a reset (R116). -/
def Cure.reset : Cure :=
  { credit := 0, target := 0, wall := 0, frozen := 0, coldMin := none, coldMax := none, loss := false,
    done := false, limit := false, verdict := none }

/-- All valves off. -/
def Valves.off : Valves := ⟨false, false, false⟩

/-- A Press Sequencer while a reset lasts, before its state is derived (R99; log entry 9). -/
def Press.reset : Press :=
  { state := .idle, cause := none, tickets := [], bound := none, closeTimer := none, openTimer := none,
    strokeTimer := none, minOpen := none, stroke := none, dip := false, valves := Valves.off,
    cure := Cure.reset }

/-- A snapshot not taken since the last power-on (R182). -/
def Snapshot.reset : Snapshot := ⟨Counters.zero, false, none, false⟩

/-- Every event kind, in code order (chapter 11, Sources and event kinds). -/
def EventKind.all : List EventKind :=
  [.cureDone, .cureLimit, .pressFault, .demouldDone, .ticketExpired, .pressureDip, .heatLoss, .heatReady,
   .zoneFault, .shortfall, .chargeAccepted, .chargeRejected, .zeroDue, .zeroTaken, .settleTimeout,
   .scaleFault, .storeDone, .historyHigh, .started, .memoryDefaulted]

/-- The Link Port as a power-on reset begins, at this rate (R203). -/
def Link.reset (rate : Nat) : Link :=
  { rate := rate, receiver := .hunting, inHand := none, transmission := none, reply := none,
    noticeWaiting := false, discarded := 0, pending := Tab.fill [], mask := EventKind.all,
    notice := false }

/-- DESIGN CHOICE, unsafe (log entry 2). The plant at the first power-on: every press stands open with its
ejector home, the guard is closed and the key is not turned. -/
def Lines.standing : Lines :=
  { presses := Tab.fill ⟨true, false, false, true, false, false⟩, guardOk := true, key := false }

/-- The machine right after a power-on reset: the start-up recall of a part whose storage has never been
written has just completed (R145, R155, R156; log entry 1). Every field has the value its owner's
reset table gives for 'power-on, copy bad'; STARTED and MEMORY_DEFAULTED are pending and their
notice, of one source code (5, CELL), is in transmission. -/
def State.reset : State :=
  { pending := [],
    phase := .running,
    pfail := false,
    lines := Lines.standing,
    inputs := Lines.standing,
    zones := Tab.fill Zone.reset,
    heat := Tab.fill PressHeat.reset,
    alloc := Alloc.reset,
    station := Station.reset 0,
    presses := Tab.fill Press.reset,
    image := Image.default,
    historyRaised := false,
    snapshots := Tab.fill Snapshot.reset,
    retained :=
      { copy := .bad, generation := 1, storedGeneration := 0, store := none, storeAgain := false,
        periodic := some 300000, resetKind := .powerOn, recallResult := .defaulted },
    clock := ⟨0, false, 0⟩,
    link :=
      { Link.reset Config.defaultLinkRate with
        transmission := some ⟨⟨0xC0, 0, [5]⟩, .notice, Config.defaultLinkRate⟩,
        pending := (Tab.fill []).set 5 [.started, .memoryDefaulted],
        notice := true },
    freeReads := 0 }

end Sys2Proof.Machine
end

