-- ==== Sys2Proof/Machine/Flags.lean ====
section
/-!
DEFINITION. Codes (chapter 11), the event pending sets, the event mask and the notice flag (R196 to R198),
and the status conditions that several blocks ask for.
-/

namespace Sys2Proof.Machine

/-! ## Status codes (R194, chapter 11) -/

/-- The statuses of a reply. -/
inductive Status where
  | ok | starting | unknownKind | badLength | badValue | wrongState | notFound | wrongTicket | notReady
  | tooSoon | guardOpen | notSafe | locked | inUse | full | tooLate | badRecipe | alreadySet
deriving DecidableEq, Repr

/-- The code of a status (chapter 11, Status codes). -/
def Status.code : Status → Byte
  | .ok => 0x00
  | .starting => 0x01
  | .unknownKind => 0x02
  | .badLength => 0x03
  | .badValue => 0x04
  | .wrongState => 0x05
  | .notFound => 0x06
  | .wrongTicket => 0x07
  | .notReady => 0x08
  | .tooSoon => 0x09
  | .guardOpen => 0x0A
  | .notSafe => 0x0B
  | .locked => 0x0C
  | .inUse => 0x0D
  | .full => 0x0E
  | .tooLate => 0x0F
  | .badRecipe => 0x10
  | .alreadySet => 0x11

/-! ## State and cause codes (chapter 11) -/

/-- Press state codes. -/
def PressState.code : PressState → Nat
  | .idle => 0
  | .loaded => 1
  | .closing => 2
  | .curing => 3
  | .opening => 4
  | .ejecting => 5
  | .unload => 6
  | .fault => 7

/-- Press fault cause codes; 0 is none. -/
def PressFault.code : Option PressFault → Nat
  | none => 0
  | some .closeTimeout => 1
  | some .openTimeout => 2
  | some .ejectTimeout => 3
  | some .stuckPart => 4
  | some .guard => 5
  | some .drift => 6
  | some .reset => 7

/-- Heat mode codes. -/
def HeatMode.code : HeatMode → Nat
  | .off => 0
  | .run => 1
  | .standby => 2

/-- Zone state codes. -/
def ZoneState.code : ZoneState → Nat
  | .off => 0
  | .active => 1
  | .held => 2
  | .fault => 3
  | .disabled => 4

/-- Zone fault cause codes; 0 is none. -/
def ZoneFault.code : Option ZoneFault → Nat
  | none => 0
  | some .break_ => 1
  | some .overtemp => 2

/-- Profile phase codes. -/
def ProfilePhase.code : ProfilePhase → Nat
  | .ramp => 0
  | .hold => 1

/-- Station state codes. -/
def StationState.code : StationState → Nat
  | .unzeroed => 0
  | .empty => 1
  | .waiting => 2
  | .settling => 3
  | .removal => 4
  | .fault => 5

/-- The holding reasons (R54). -/
inductive Holding where
  | none | noOrder | noRoom | zeroOverdue | noEligiblePress | noSerial
deriving DecidableEq, Repr

/-- Holding reason codes. -/
def Holding.code : Holding → Nat
  | .none => 0
  | .noOrder => 1
  | .noRoom => 2
  | .zeroOverdue => 3
  | .noEligiblePress => 4
  | .noSerial => 5

/-- Disposition codes; 0 is none. -/
def Disposition.code : Option Disposition → Nat
  | none => 0
  | some .rejectLight => 1
  | some .rejectHeavy => 2
  | some .scrapExpired => 3
  | some .scrapAborted => 4
  | some .scrapFault => 5
  | some .scrapReset => 6
  | some .scrapPower => 7
  | some .suspect => 8
  | some .good => 9

/-- Verdict codes; 0 is none. -/
def Verdict.code : Option Verdict → Nat
  | none => 0
  | some .under => 1
  | some .normal => 2
  | some .over_ => 3

/-- End kind codes. -/
def EndKind.code : EndKind → Nat
  | .time => 0
  | .atClose => 1
  | .atOpen => 2

/-- Event kind codes (chapter 11, Sources and event kinds). -/
def EventKind.code : EventKind → Byte
  | .cureDone => 0x01
  | .cureLimit => 0x02
  | .pressFault => 0x03
  | .demouldDone => 0x04
  | .ticketExpired => 0x05
  | .pressureDip => 0x06
  | .heatLoss => 0x07
  | .heatReady => 0x08
  | .zoneFault => 0x09
  | .shortfall => 0x0A
  | .chargeAccepted => 0x11
  | .chargeRejected => 0x12
  | .zeroDue => 0x13
  | .zeroTaken => 0x14
  | .settleTimeout => 0x15
  | .scaleFault => 0x16
  | .storeDone => 0x21
  | .historyHigh => 0x22
  | .started => 0x23
  | .memoryDefaulted => 0x24

/-- The event kind a byte of a MASK_EVENTS list names, if any (R197). -/
def EventKind.ofCode (b : Byte) : Option EventKind := EventKind.all.find? fun k => decide (k.code = b)

/-! ## Pending sets and the mask (R196, R197) -/

/-- The six event sources (chapter 10). -/
inductive Source where
  | press (p : Fin 4)
  | weigh
  | cell
deriving DecidableEq, Repr

/-- The source's code: presses 0 to 3, WEIGH 4, CELL 5. -/
def Source.index : Source → Fin 6
  | .press p => ⟨p.val, by have := p.isLt; omega⟩
  | .weigh => 4
  | .cell => 5

/-- A set of kinds with one kind added; the set is listed in code order, each kind once. -/
def addKind (k : EventKind) (set : List EventKind) : List EventKind :=
  EventKind.all.filter fun j => decide (j = k) || decide (j ∈ set)

/-- A set of kinds with these kinds added. -/
def addKinds (ks set : List EventKind) : List EventKind :=
  EventKind.all.filter fun j => decide (j ∈ ks) || decide (j ∈ set)

/-- A set of kinds with these kinds removed. -/
def removeKinds (ks set : List EventKind) : List EventKind := set.filter fun j => !decide (j ∈ ks)

/-- Notices are made, and the transmitter starts frames, in every phase but power-fall handling and after it; RESET
held low stops the receiver alone (R151, R195, R203, R207). -/
def Phase.notices : Phase → Bool
  | .running => true
  | .recalling => true
  | .held => true
  | .waiting => true
  | .powerFall _ _ => false
  | .stopped => false
  | .unpowered => false

/-- The Link Port receives and answers while the part works and from the start of a power-on reset until its recall
completes, so also while the start-up waits for PFAIL to fall (R203's table); not while RESET is held low, nor in and
after power-fall handling (R151, R207). -/
def Phase.receives : Phase → Bool
  | .running => true
  | .recalling => true
  | .held => false
  | .waiting => true
  | .powerFall _ _ => false
  | .stopped => false
  | .unpowered => false

/-- From the start of a power-on reset until its recall completes every request is answered STARTING (R153, R203). -/
def Phase.starting : Phase → Bool
  | .recalling => true
  | .waiting => true
  | .running => false
  | .held => false
  | .powerFall _ _ => false
  | .stopped => false
  | .unpowered => false

/-- The notice rule: with the flag clear, a notice is made waiting and the flag set (R198). -/
def Link.offerNotice (l : Link) : Link :=
  if l.notice then l else { l with notice := true, noticeWaiting := true }

/-- A block raises an event kind on a source: the kind joins the source's pending set, and, if it is enabled,
the raise is offered to the notice rule (R196, R198). -/
def State.raise (s : State) (src : Source) (k : EventKind) : State :=
  let l := { s.link with pending := s.link.pending.modify src.index (addKind k) }
  { s with link := if decide (k ∈ l.mask) && s.phase.notices then l.offerNotice else l }

/-- The codes of the sources that hold an enabled pending kind, in ascending order (R198). -/
def Link.noticeBody (l : Link) : List Byte :=
  ((List.finRange 6).filter fun i => (l.pending.get i).any fun k => decide (k ∈ l.mask)).map
    fun i => BitVec.ofNat 8 i.val

/-! ## Conditions several blocks ask for -/

/-- The image is dirty (R146). -/
def Retained.dirty (r : Retained) : Bool := decide (r.generation ≠ r.storedGeneration)

/-- The memory state CELL_STATUS reports: 0 CLEAN, 1 DIRTY, 2 STORING (R146). -/
def Retained.memoryState (r : Retained) : Nat :=
  if r.store.isSome then 2 else if r.dirty then 1 else 0

/-- The press is the press of the Weigh Station's current order (R67). -/
def State.isCurrentPress (s : State) (p : Fin 4) : Bool :=
  match s.station.current with
  | some o => decide (o.press = p)
  | none => false

/-- The open records plus the closed uncollected records (R132). -/
def Image.recordCount (m : Image) : Nat := m.openTable.length + m.ring.count

/-- The recipe lock is in force: the setting is on and KEY is low (R166). -/
def State.lockInForce (s : State) : Bool := s.image.settings.recipeLock && !s.inputs.key

/-- The recipe assigned to a press, if one is. -/
def State.recipeOf (s : State) (p : Fin 4) : Option Recipe :=
  match s.image.assigned.get p with
  | some slot => (s.image.slots.get slot).recipe
  | none => none

/-- The press has a ticket, a bound part, heat mode RUN, or is the press of the current order (R162, R168). -/
def State.pressInUse (s : State) (p : Fin 4) : Bool :=
  decide ((s.heat.get p).mode = .run) || !(s.presses.get p).tickets.isEmpty ||
    (s.presses.get p).bound.isSome || s.isCurrentPress p

/-- The three valve outputs of a press state (R73). -/
def valvesFor (st : PressState) (stroke : Option Stroke) : Valves :=
  match st with
  | .closing => ⟨true, false, false⟩
  | .curing => ⟨true, false, false⟩
  | .opening => ⟨false, true, false⟩
  | .ejecting =>
    match stroke with
    | some ⟨_, .out⟩ => ⟨false, false, true⟩
    | some ⟨_, .back⟩ => Valves.off
    | none => Valves.off
  | .idle => Valves.off
  | .loaded => Valves.off
  | .unload => Valves.off
  | .fault => Valves.off

end Sys2Proof.Machine
end

