-- ==== Sys2Proof/Machine/Ops.lean ====
section
/-!
DEFINITION. The named operations the commands share: arithmetic helpers, timers, the clock's stamp, the
working image's change count (R146), the transmitter (R195) and the reply (R194), the history ring
(R131), part records (R126, R128), counters (R178), stores (R147) and the HISTORY_HIGH test (R133).
-/

namespace Sys2Proof.Machine

/-! ## Arithmetic (About this manual, Conventions) -/

/-- A value clamped to a range. -/
def clamp (lo hi x : Int) : Int := if x < lo then lo else if hi < x then hi else x

/-- A count that saturates. -/
def satAdd (top n k : Nat) : Nat := if n + k < top then n + k else top

/-! ## Timers -/

/-- A timer started at a number of seconds, in milliseconds. -/
def seconds (n : Nat) : Nat := n * 1000

/-- Whole seconds left, rounded up; 0 for a timer that does not run (R98, R68). -/
def secondsLeft : Option Nat → Nat
  | none => 0
  | some ms => (ms + 999) / 1000

/-- A timer of a time that may be 0, which is then elapsed, or stopped, at once (R81, R150). -/
def startTimer (n : Nat) : Option Nat := if n = 0 then none else some (seconds n)

/-! ## The clock -/

/-- A time stamp: the clock's value when it is SET, absent otherwise (R187). -/
def Clock.stamp (c : Clock) : Option Nat := if c.set then some c.value else none

/-! ## Named updates of one entry -/

/-- Zone `z`. -/
def State.zone (s : State) (z : Fin 24) : Zone := s.zones.get z

/-- Press `p`. -/
def State.press (s : State) (p : Fin 4) : Press := s.presses.get p

/-- The heat figures of press `p`. -/
def State.pressHeat (s : State) (p : Fin 4) : PressHeat := s.heat.get p

/-- Zone `z` changed by `f`. -/
def State.modZone (s : State) (z : Fin 24) (f : Zone → Zone) : State :=
  { s with zones := s.zones.modify z f }

/-- Press `p` changed by `f`. -/
def State.modPress (s : State) (p : Fin 4) (f : Press → Press) : State :=
  { s with presses := s.presses.modify p f }

/-- The heat figures of press `p` changed by `f`. -/
def State.modHeat (s : State) (p : Fin 4) (f : PressHeat → PressHeat) : State :=
  { s with heat := s.heat.modify p f }

/-- The station changed by `f`. -/
def State.modStation (s : State) (f : Station → Station) : State := { s with station := f s.station }

/-- The Link Port changed by `f`. -/
def State.modLink (s : State) (f : Link → Link) : State := { s with link := f s.link }

/-- Retained Memory changed by `f`. -/
def State.modRetained (s : State) (f : Retained → Retained) : State :=
  { s with retained := f s.retained }

/-! ## Changes of the working image (R146) -/

/-- The change generation is a 32-bit count that wraps. -/
def nextGeneration (g : Nat) : Nat := (g + 1) % 4294967296

/-- The working image is changed by `f`, which is a change: the generation moves on. -/
def State.writeImage (s : State) (f : Image → Image) : State :=
  { s with
    image := f s.image,
    retained := { s.retained with generation := nextGeneration s.retained.generation } }

/-- One event makes one change, however many writes it makes (R146, R179): `s` is the state before the event
and `t` the state after its writes. -/
def oneChange (s t : State) : State :=
  if t.retained.generation = s.retained.generation then t
  else t.modRetained fun r => { r with generation := nextGeneration s.retained.generation }

/-! ## The transmitter (R195, R198) -/

/-- A free transmitter starts a waiting frame: the reply first, then the notice, whose body is formed now and
which is withdrawn, with the flag cleared, when no source holds an enabled pending kind. -/
def Link.startFrame (l : Link) : Link :=
  match l.transmission with
  | some _ => l
  | none =>
    match l.reply with
    | some f => { l with transmission := some ⟨f, .reply, l.rate⟩, reply := none }
    | none =>
      if l.noticeWaiting then
        if l.noticeBody = [] then { l with noticeWaiting := false, notice := false }
        else
          { l with transmission := some ⟨⟨0xC0, 0, l.noticeBody⟩, .notice, l.rate⟩,
                   noticeWaiting := false }
      else l

/-- At the end of a command the transmitter starts what waits, in every phase in which it starts frames (R151, R153,
R195; log entry 12). -/
def State.pump (s : State) : State :=
  if s.phase.notices then { s with link := s.link.startFrame } else s

/-- A received frame is discarded and counted (R189 to R192). -/
def State.discardFrame (s : State) : State :=
  s.modLink fun l => { l with discarded := satAdd 65535 l.discarded 1 }

/-- The reply to the request in hand, with this status and data, is made ready for the transmitter (R194). -/
def State.answer (s : State) (st : Status) (data : List Byte) : State :=
  match s.link.inHand with
  | none => s
  | some h =>
    s.modLink fun l =>
      { l with
        inHand := some { h with stage := .answered },
        reply := some ⟨h.kind + 0x80, h.tag, st.code :: data⟩ }

/-! ## The history ring (R131) -/

/-- A place written; the list stays strictly rising. -/
def writePlace (k : Nat) (r : Record) : List (Nat × Record) → List (Nat × Record)
  | [] => [(k, r)]
  | (j, q) :: rest =>
    if k < j then (k, r) :: (j, q) :: rest
    else if k = j then (k, r) :: rest
    else (j, q) :: writePlace k r rest

/-- What a place holds; an unlisted place is empty. -/
def readPlace (k : Nat) : List (Nat × Record) → Option Record
  | [] => none
  | (j, q) :: rest => if k = j then some q else readPlace k rest

/-- The place numbers rise strictly. -/
def placesRise : List (Nat × Record) → Bool
  | [] => true
  | [(j, _)] => decide (j < 1024)
  | (j, _) :: (k, q) :: rest => decide (j < k) && placesRise ((k, q) :: rest)

/-- The canonical form of the ring: places below 1024, listed strictly rising, P below 1024. -/
def Ring.wf (r : Ring) : Bool := placesRise r.places && decide (r.oldest < 1024)

/-- The place of an index from the oldest uncollected record. -/
def Ring.placeOf (r : Ring) (k : Nat) : Nat := (r.oldest + k) % 1024

/-- The uncollected record at an index, 0 the oldest (R131). -/
def Ring.record (r : Ring) (k : Nat) : Option Record :=
  if k < r.count then readPlace (r.placeOf k) r.places else none

/-- A closed record appended as the newest uncollected one: it is written into place (P + U) modulo 1024, and
U grows by 1 (R131). -/
def Ring.append (r : Ring) (q : Record) : Ring :=
  { r with places := writePlace (r.placeOf r.count) q r.places, count := r.count + 1 }

/-- The `n` oldest uncollected records are collected (R135). -/
def Ring.collect (r : Ring) (n : Nat) : Ring :=
  { r with oldest := (r.oldest + n) % 1024, count := r.count - n }

/-- The index of the uncollected record with this serial. -/
def Ring.indexOf (r : Ring) (serial : Nat) : Option Nat :=
  (List.range r.count).find? fun k =>
    match r.record k with
    | some q => decide (q.serial = serial)
    | none => false

/-- The uncollected record at an index changed by `f`. -/
def Ring.modRecord (r : Ring) (k : Nat) (f : Record → Record) : Ring :=
  match r.record k with
  | some q => { r with places := writePlace (r.placeOf k) (f q) r.places }
  | none => r

/-! ## Counters (R178) -/

/-- A counter grows by 1, or sets its marker when it is already at its greatest value. -/
def Counter.bump (c : Counter) : Counter :=
  if c.n < 65535 then { c with n := c.n + 1 } else { c with saturated := true }

/-- The counter of a disposition grows (R130's second table). -/
def Counters.bumpFor (c : Counters) : Disposition → Counters
  | .rejectLight => { c with rejects := c.rejects.bump }
  | .rejectHeavy => { c with rejects := c.rejects.bump }
  | .scrapExpired => { c with scrap := c.scrap.bump }
  | .scrapAborted => { c with scrap := c.scrap.bump }
  | .scrapFault => { c with scrap := c.scrap.bump }
  | .scrapReset => { c with scrap := c.scrap.bump }
  | .scrapPower => { c with scrap := c.scrap.bump }
  | .suspect => { c with suspect := c.suspect.bump }
  | .good => { c with good := c.good.bump }

/-! ## Part records -/

/-- The open record with this serial (R122). -/
def Image.openRecord (m : Image) (serial : Nat) : Option OpenRecord :=
  m.openTable.find? fun o => decide (o.record.serial = serial)

/-- A write into the open record with this serial: a change of the image (R126). -/
def State.writeOpen (s : State) (serial : Nat) (f : OpenRecord → OpenRecord) : State :=
  s.writeImage fun m =>
    { m with openTable := m.openTable.map fun o => if o.record.serial = serial then f o else o }

/-- A write into a record's cure summary, when it has one. -/
def OpenRecord.onCure (o : OpenRecord) (f : CureSummary → CureSummary) : OpenRecord :=
  { o with record := { o.record with cure := o.record.cure.map f } }

/-- A record as the closing procedure leaves it (R128, steps 1 and 2). -/
def Record.closed (r : Record) (d : Disposition) (cause : Option PressFault) (time : Option Nat) :
    Record :=
  { r with disposition := some d, cause := cause, closingTime := time }

/-- The image once a closed record has entered the ring, with the counter of its press grown (R128, steps 3
and 5). -/
def Image.takeClosed (m : Image) (r : Record) (d : Disposition) : Image :=
  { m with
    ring := m.ring.append r,
    counters := m.counters.modify r.press fun c => c.bumpFor d }

/-- The closing procedure for the open record with this serial (R128). -/
def State.closeRecord (s : State) (serial : Nat) (d : Disposition) (cause : Option PressFault) : State :=
  match s.image.openRecord serial with
  | none => s
  | some o =>
    s.writeImage fun m =>
      { m.takeClosed (o.record.closed d cause s.clock.stamp) d with
        openTable := m.openTable.filter fun q => !decide (q.record.serial = serial) }

/-- The serials of the open table in ascending order (R138, R140). -/
def insertSerial (n : Nat) : List Nat → List Nat
  | [] => [n]
  | m :: rest => if n ≤ m then n :: m :: rest else m :: insertSerial n rest

/-- The serials of the open table in ascending order (R138, R140). -/
def Image.openSerials (m : Image) : List Nat :=
  m.openTable.foldr (fun o acc => insertSerial o.record.serial acc) []

/-- Every open record is closed with this disposition, in ascending serial order, each closing one change
(R138, R140, R156). -/
def State.closeAll (s : State) (d : Disposition) : State :=
  s.image.openSerials.foldl (fun t serial => t.closeRecord serial d none) s

/-- The record of the part bound to a press is written (R126). -/
def State.writeBound (s : State) (p : Fin 4) (f : OpenRecord → OpenRecord) : State :=
  match (s.press p).bound with
  | some b => s.writeOpen b.serial f
  | none => s

/-- The open record of the part bound to a press. -/
def State.boundRecord (s : State) (p : Fin 4) : Option OpenRecord :=
  match (s.press p).bound with
  | some b => s.image.openRecord b.serial
  | none => none

/-! ## HISTORY_HIGH (R133) -/

/-- The HISTORY_HIGH test on the records as they stand. -/
def State.historyTest (s : State) : State :=
  if s.image.settings.historyWarning ≤ s.image.recordCount then
    if s.historyRaised then s else { s with historyRaised := true }.raise .cell .historyHigh
  else { s with historyRaised := false }

/-! ## Stores (R147) -/

/-- A store starts: the image as it stands and the present generation are what it writes. -/
def State.startStore (s : State) : State :=
  s.modRetained fun r => { r with store := some ⟨s.image, r.generation⟩ }

/-- The periodic store timer started with the store interval as it stands; 0 stops it (R150). -/
def State.startPeriodic (s : State) : State :=
  s.modRetained fun r => { r with periodic := startTimer s.image.settings.storeInterval }

/-! ## One event -/

/-- An event of the plant or of a timer: it acts only while the part works (R100, R153, R207), its writes make
one change (R146), and the transmitter then starts what waits. -/
def plantEvent (s : State) (act : State → State) : State :=
  if s.phase = .running then (oneChange s (act s)).pump else s

end Sys2Proof.Machine
end

