-- ==== Sys2Proof/Machine/LinkOps.lean ====
section
/-!
DEFINITION. The line receiver byte by byte (R189 to R191), the judging of a frame (R190 to R193), and how
a request command reaches its owner (`serve`).
-/

namespace Sys2Proof.Machine

/-- What the receiver has judged: a good frame, a frame whose CRC does not match, or an over-length frame at
its tag byte. -/
inductive Heard where
  | good (kind tag : Byte) (body : List Byte)
  | badCrc
  | overLength (kind : Byte) (tag : Byte)
deriving DecidableEq, Repr

/-- The bytes of a frame in assembly, judged once they suffice: at the tag byte for a length above 240 (R191),
at the last CRC byte otherwise (R190). -/
def judge (got : List Byte) : Receiver × Option Heard :=
  match got with
  | len :: kind :: tag :: rest =>
    if 240 < len.toNat then (.skipping, some (.overLength kind tag))
    else if rest.length < len.toNat + 2 then (.assembling got, none)
    else
      let body := rest.take len.toNat
      if halfBytes (crc16 (len :: kind :: tag :: body)) = rest.drop len.toNat then
        (.hunting, some (.good kind tag body))
      else (.hunting, some .badCrc)
  | _ => (.assembling got, none)

/-- The receiver takes one byte (R189). -/
def Receiver.take (r : Receiver) (b : Byte) : Receiver × Option Heard :=
  match r with
  | .hunting => if b = startByte then (.assembling [], none) else (.hunting, none)
  | .assembling got => judge (got ++ [b])
  | .skipping => (.skipping, none)

/-- A frame becomes the request in hand, already answered by the Link Port's own checks, with no block told of
it (R191, R193). -/
def State.answerAtOnce (s : State) (kind tag : Byte) (body : List Byte) (st : Status) : State :=
  (s.modLink fun l => { l with inHand := some ⟨kind, tag, body, .handed⟩ }).answer st []

/-- A good frame: discarded while a request is in hand (R192); otherwise the request in hand, checked by the
Link Port (R193) and handed to its owner when every check passes. -/
def State.goodFrame (s : State) (kind tag : Byte) (body : List Byte) : State :=
  if s.link.inHand.isSome then s.discardFrame
  else if s.phase.starting then s.answerAtOnce kind tag body .starting
  else if !kindKnown kind then s.answerAtOnce kind tag body .unknownKind
  else if !lengthAccepted kind body.length then s.answerAtOnce kind tag body .badLength
  else s.modLink fun l => { l with inHand := some ⟨kind, tag, body, .handed⟩ }

/-- An over-length frame at its tag byte (R191). -/
def State.overLengthFrame (s : State) (kind tag : Byte) : State :=
  if kindKnown kind && !s.link.inHand.isSome then
    s.answerAtOnce kind tag [] (if s.phase.starting then .starting else .badLength)
  else s.discardFrame

/-- What is done with what the receiver has judged. -/
def State.acceptHeard (s : State) : Option Heard → State
  | none => s
  | some (.good kind tag body) => s.goodFrame kind tag body
  | some .badCrc => s.discardFrame
  | some (.overLength kind tag) => s.overLengthFrame kind tag

/-- The Link Port takes one byte from the line. -/
def State.hearByte (s : State) (b : Byte) : State :=
  (s.modLink fun l => { l with receiver := (l.receiver.take b).1 }).acceptHeard
    (s.link.receiver.take b).2

/-- The Link Port takes bytes from the line, one after another. -/
def State.hear (s : State) (bytes : List Byte) : State := bytes.foldl State.hearByte s

/-- A break in the bytes of a frame, by a gap or by a framing error: a frame in assembly is abandoned and
counted (R189). -/
def State.abandonFrame (s : State) : State :=
  match s.link.receiver with
  | .assembling _ => (s.modLink fun l => { l with receiver := .hunting }).discardFrame
  | .hunting => s
  | .skipping => s

/-- A gap of more than 10 ms: it abandons a frame in assembly and ends SKIPPING (R189, R191). -/
def State.gap (s : State) : State :=
  s.abandonFrame.modLink fun l => { l with receiver := .hunting }

/-- An event of the line: it acts while the Link Port receives (R151, R153, R207), and the transmitter then
starts what waits. -/
def lineEvent (s : State) (act : State → State) : State :=
  if s.phase.receives then (act s).pump else s

/-- The request in hand is this one, handed to its owner and not yet answered, and the part works. -/
def State.holds (s : State) (kind tag : Byte) (body : List Byte) : Prop :=
  s.phase = .running ∧ s.link.inHand = some ⟨kind, tag, body, .handed⟩

/-- The same, as a test. -/
def State.holdsNow (s : State) (kind tag : Byte) (body : List Byte) : Bool :=
  decide (s.phase = .running) && decide (s.link.inHand = some ⟨kind, tag, body, .handed⟩)

/-- The owner of the request in hand takes it or refuses it: its writes make one change (R146), and the
transmitter then starts what waits. -/
def State.taken (s : State) (own : State → State) : State := (oneChange s (own s)).pump

/-- A request command. When the request in hand is this one and waits for its owner, the owner acts on it.
Otherwise the command is the request arriving in a good frame, which the Link Port receives as R189 to R193
require, and on which the owner acts at once when it has been handed over (DESIGN CHOICE, log entry 4). -/
def State.serve (s : State) (kind tag : Byte) (body : List Byte) (own : State → State) : State :=
  if s.holdsNow kind tag body then s.taken own
  else if s.phase.receives then
    let t := s.hear (frameBytes kind tag body)
    if t.holdsNow kind tag body then t.taken own else t.pump
  else s

/-- The request command that waits for its owner, read from the request in hand. -/
def State.waitingRequest (s : State) : Option Instr :=
  match s.link.inHand with
  | some ⟨kind, tag, body, .handed⟩ => parseRequest kind tag body
  | some ⟨_, _, _, .answered⟩ => none
  | some ⟨_, _, _, .restarting⟩ => none
  | none => none

end Sys2Proof.Machine
end

