-- ==== Sys2Proof/Machine/Operands.lean ====
section
/-!
DEFINITION. What the operands of the commands mean: numbers of presses, zones and slots (a number that names
no such thing is none), modes and kinds, readings (R2), settings brought into their ranges (R171),
and recipe records clamped and checked (R163, R164).
-/

namespace Sys2Proof.Machine

/-! ## Numbers of things -/

/-- The press a byte numbers; none above 3. -/
def pressNo (b : Byte) : Option (Fin 4) := if h : b.toNat < 4 then some ⟨b.toNat, h⟩ else none

/-- The zone a byte numbers; none above 23. -/
def zoneNo (b : Byte) : Option (Fin 24) := if h : b.toNat < 24 then some ⟨b.toNat, h⟩ else none

/-- The recipe slot a byte numbers; none above 15. -/
def slotNo (b : Byte) : Option (Fin 16) := if h : b.toNat < 16 then some ⟨b.toNat, h⟩ else none

/-- The press of a zone: its number divided by 6, rounded down (chapter 1). -/
def zonePress (z : Fin 24) : Fin 4 := ⟨z.val / 6, by have := z.isLt; omega⟩

/-- The position of a zone: the remainder (chapter 1). -/
def zonePos (z : Fin 24) : Fin 6 := ⟨z.val % 6, by omega⟩

/-- The zone of a press at a position: press × 6 + position. -/
def zoneAt (p : Fin 4) (i : Fin 6) : Fin 24 :=
  ⟨p.val * 6 + i.val, by have := p.isLt; have := i.isLt; omega⟩

/-- The press a SNAPSHOT_COUNTERS names: one press, or all (4) (R180, R205). -/
def snapshotTarget (b : Byte) : Option (Option (Fin 4)) :=
  match pressNo b with
  | some p => some (some p)
  | none => if b.toNat = 4 then some none else none

/-- A no/yes field: 0 no, 1 yes, nothing else. -/
def yesNo (b : Byte) : Option Bool :=
  if b.toNat = 0 then some false else if b.toNat = 1 then some true else none

/-! ## Modes and kinds -/

/-- The heat mode a byte codes. -/
def heatModeOf (b : Byte) : Option HeatMode :=
  if b.toNat = 0 then some .off
  else if b.toNat = 1 then some .run
  else if b.toNat = 2 then some .standby
  else none

/-- The held set a byte carries; none when it names a position above 5 (R6, R204). -/
def heldSetOf (b : Byte) : Option (Tab Bool 6) :=
  if b.toNat < 64 then some (Tab.build fun i => b.getLsbD i.val) else none

/-- The end kind a byte codes. -/
def endKindOf (b : Byte) : Option EndKind :=
  if b.toNat = 0 then some .time
  else if b.toNat = 1 then some .atClose
  else if b.toNat = 2 then some .atOpen
  else none

/-- The event kinds a MASK_EVENTS list names; none when a value is no event kind (R197). -/
def eventKindsOf : List Byte → Option (List EventKind)
  | [] => some []
  | b :: rest =>
    match EventKind.ofCode b, eventKindsOf rest with
    | some k, some ks => some (k :: ks)
    | some _, none => none
    | none, _ => none

/-- A reading as the Zone Controller holds it: a VALID temperature within −500 to 4500 (R2). -/
def heldReading : Reading → Reading
  | .broken => .broken
  | .valid t => .valid (clamp (-500) 4500 t)

/-! ## Settings (R170 to R173) -/

/-- The value of a setting, by its identifier. -/
def Settings.value (c : Settings) (ident : Nat) : Option Int :=
  match ident with
  | 1 => some c.demandLimit
  | 2 => some (if c.levelling then 1 else 0)
  | 3 => some c.overMargin
  | 4 => some (if c.recipeLock then 1 else 0)
  | 5 => some c.zeroInterval
  | 6 => some c.zeroRange
  | 7 => some c.autoZeroBand
  | 8 => some c.stabilityBand
  | 9 => some c.loadThreshold
  | 10 => some c.settleTimeout
  | 11 => some c.capacity
  | 12 => some c.gain
  | 13 => some c.calibrationZero
  | 14 => some c.storeInterval
  | 15 => some c.historyWarning
  | 16 => some c.linkRate
  | 17 => some c.cellNumber
  | _ => none

/-- A store interval brought into 0, or 10 to 3600 (R171). -/
def storedInterval (v : Int) : Int :=
  if v ≤ 0 then 0 else if v < 10 then 10 else if 3600 < v then 3600 else v

/-- A link rate brought to the greatest of the four rates that is no greater, or the least rate (R171). -/
def storedRate (v : Int) : Int :=
  if v < 19200 then 9600 else if v < 57600 then 19200 else if v < 115200 then 57600 else 115200

/-- A value brought into its setting's range (R171). -/
def settingStored (ident : Nat) (v : Int) : Int :=
  match ident with
  | 1 => clamp 1 24 v
  | 2 => if v = 0 then 0 else 1
  | 3 => clamp 50 500 v
  | 4 => if v = 0 then 0 else 1
  | 5 => clamp 1 100 v
  | 6 => clamp 0 2000 v
  | 7 => clamp 0 50 v
  | 8 => clamp 1 50 v
  | 9 => clamp 50 5000 v
  | 10 => clamp 2 60 v
  | 11 => clamp 1000 30000 v
  | 12 => clamp 1 1048575 v
  | 13 => clamp (-8388608) 8388607 v
  | 14 => storedInterval v
  | 15 => clamp 0 1024 v
  | 16 => storedRate v
  | 17 => clamp 0 255 v
  | _ => v

/-- A setting given a value of its range. -/
def Settings.put (c : Settings) (ident : Nat) (v : Int) : Settings :=
  match ident with
  | 1 => { c with demandLimit := v.toNat }
  | 2 => { c with levelling := decide (v = 1) }
  | 3 => { c with overMargin := v.toNat }
  | 4 => { c with recipeLock := decide (v = 1) }
  | 5 => { c with zeroInterval := v.toNat }
  | 6 => { c with zeroRange := v.toNat }
  | 7 => { c with autoZeroBand := v.toNat }
  | 8 => { c with stabilityBand := v.toNat }
  | 9 => { c with loadThreshold := v.toNat }
  | 10 => { c with settleTimeout := v.toNat }
  | 11 => { c with capacity := v.toNat }
  | 12 => { c with gain := v.toNat }
  | 13 => { c with calibrationZero := v }
  | 14 => { c with storeInterval := v.toNat }
  | 15 => { c with historyWarning := v.toNat }
  | 16 => { c with linkRate := v.toNat }
  | 17 => { c with cellNumber := v.toNat }
  | _ => c

end Sys2Proof.Machine

namespace Sys2Proof

open Machine

/-! ## Recipe records (R159 to R165) -/

/-- The number of segment entries in use; a count above 8 is refused later (R164). -/
def RawRecipe.used (r : RawRecipe) : Nat := min r.segmentCount.toNat 8

/-- The number of band entries in use. -/
def RawRecipe.usedBands (r : RawRecipe) : Nat := min r.bandCount.toNat 8

/-- A numeric field that WRITE_RECIPE clamps: its number, the value sent, and its range. -/
structure ClampedField where
  number : Nat
  sent : Int
  lo : Int
  hi : Int
deriving DecidableEq, Repr

/-- The clamped fields of the segment entries in use. -/
def RawRecipe.segmentFields (r : RawRecipe) : List ClampedField :=
  ((List.finRange 8).filter fun i => decide (i.val < r.used)).flatMap fun i =>
    [⟨7 + 4 * i.val, (r.segments.get i).target.toInt, 0, 4000⟩,
     ⟨8 + 4 * i.val, (r.segments.get i).rate.toInt, 0, 100⟩]

/-- The zone offsets. -/
def RawRecipe.offsetFields (r : RawRecipe) : List ClampedField :=
  (List.finRange 6).map fun i => ⟨39 + i.val, (r.offsets.get i).toInt, -200, 200⟩

/-- The clamped fields of the band entries in use. -/
def RawRecipe.bandFields (r : RawRecipe) : List ClampedField :=
  ((List.finRange 8).filter fun i => decide (i.val < r.usedBands)).flatMap fun i =>
    [⟨47 + 2 * i.val, (r.bands.get i).lower.toInt, 0, 4000⟩,
     ⟨48 + 2 * i.val, (r.bands.get i).weight.toInt, 0, 64⟩]

/-- Every clamped field, in ascending order of number (R163). -/
def RawRecipe.clampFields (r : RawRecipe) : List ClampedField :=
  [⟨2, r.nominal.toInt, 100, 30000⟩, ⟨3, r.tolerance.toInt, 1, 100⟩,
   ⟨4, r.potLife.toInt, 10, 7200⟩] ++ r.segmentFields ++ r.offsetFields ++
  [⟨45, r.readyBand.toInt, 1, 200⟩] ++ r.bandFields ++
  [⟨63, r.cureTarget.toInt, 1, 3600⟩, ⟨64, r.minCure.toInt, 0, 3600⟩,
   ⟨65, r.maxCure.toInt, 1, 7200⟩, ⟨66, r.overcure.toInt, 16, 64⟩,
   ⟨68, r.closeTimeout.toInt, 1, 120⟩, ⟨69, r.openTimeout.toInt, 1, 120⟩,
   ⟨70, r.minOpen.toInt, 0, 600⟩, ⟨71, r.demouldTries.toNat, 0, 3⟩,
   ⟨72, r.strokeTimeout.toInt, 1, 30⟩]

/-- The numbers of the fields that needed clamping, ascending (R163). -/
def RawRecipe.clampedNumbers (r : RawRecipe) : List Nat :=
  (r.clampFields.filter fun f => decide (f.sent < f.lo) || decide (f.hi < f.sent)).map
    ClampedField.number

/-- A clamped two-byte field. -/
def clampHalf (lo hi : Int) (h : Half) : Nat := (clamp lo hi h.toInt).toNat

/-- The name: the characters before the first byte of value 0 (chapter 11, The recipe record). -/
def RawRecipe.nameChars (r : RawRecipe) : List Byte := r.name.toList.takeWhile fun b => decide (b ≠ 0)

/-- The first of these numbers for which a check fails. -/
def firstFailing (n : Nat) (fails : Nat → Bool) : Option Nat := (List.range n).find? fails

/-- The end kind byte of segment `i`; a number beyond the entries has none. -/
def RawRecipe.endKindAt (r : RawRecipe) (i : Nat) : Option EndKind :=
  if h : i < 8 then endKindOf (r.segments.get ⟨i, h⟩).endKind else none

/-- The clamped lower bound of band `i`. -/
def RawRecipe.lowerAt (r : RawRecipe) (i : Nat) : Int :=
  if h : i < 8 then clamp 0 4000 (r.bands.get ⟨i, h⟩).lower.toInt else 0

/-- The structural checks, in order: the number of the field the first failing check names (R164). -/
def RawRecipe.badField (r : RawRecipe) : Option Nat :=
  let n := r.segmentCount.toNat
  let m := r.bandCount.toNat
  let maxCure := clamp 1 7200 r.maxCure.toInt
  if r.nameChars.any fun b => decide (b.toNat < 32) || decide (126 < b.toNat) then some 1
  else if n < 1 ∨ 8 < n then some 5
  else if n ≤ r.restSegment.toNat then some 6
  else
    match firstFailing n fun i => (r.endKindAt i).isNone with
    | some i => some (10 + 4 * i)
    | none =>
      if !(List.range n).any fun i => decide (r.endKindAt i = some .atClose) then some (10 + 4 * (n - 1))
      else if m < 1 ∨ 8 < m then some 46
      else
        match firstFailing m fun i => decide (0 < i) && decide (r.lowerAt i ≤ r.lowerAt (i - 1)) with
        | some i => some (47 + 2 * i)
        | none =>
          if (yesNo r.autoOpen).isNone then some 67
          else if maxCure < clamp 0 3600 r.minCure.toInt then some 65
          else if maxCure < clamp 1 3600 r.cureTarget.toInt then some 65
          else none

/-- A stored segment: clamped when in use, zero and TIME when not (R160). -/
def RawRecipe.segmentStored (r : RawRecipe) (i : Fin 8) : Segment :=
  if i.val < r.used then
    let g := r.segments.get i
    { target := clampHalf 0 4000 g.target, rate := clampHalf 0 100 g.rate, hold := g.hold.toNat,
      endKind := (endKindOf g.endKind).getD .time }
  else ⟨0, 0, 0, .time⟩

/-- A stored band: clamped when in use, zero when not (R160). -/
def RawRecipe.bandStored (r : RawRecipe) (i : Fin 8) : Band :=
  if i.val < r.usedBands then
    let b := r.bands.get i
    ⟨clampHalf 0 4000 b.lower, clampHalf 0 64 b.weight⟩
  else ⟨0, 0⟩

/-- The recipe stored from a record, with its revision (R165). -/
def RawRecipe.stored (r : RawRecipe) (revision : Nat) : Recipe :=
  { name := r.nameChars, revision := revision,
    nominal := clampHalf 100 30000 r.nominal, tolerance := clampHalf 1 100 r.tolerance,
    potLife := clampHalf 10 7200 r.potLife, segmentCount := r.segmentCount.toNat,
    restSegment := r.restSegment.toNat, segments := Tab.build r.segmentStored,
    offsets := Tab.build fun i => clamp (-200) 200 (r.offsets.get i).toInt,
    readyBand := clampHalf 1 200 r.readyBand, bandCount := r.bandCount.toNat,
    bands := Tab.build r.bandStored, cureTarget := clampHalf 1 3600 r.cureTarget,
    minCure := clampHalf 0 3600 r.minCure, maxCure := clampHalf 1 7200 r.maxCure,
    overcure := clampHalf 16 64 r.overcure, autoOpen := decide (r.autoOpen.toNat = 1),
    closeTimeout := clampHalf 1 120 r.closeTimeout, openTimeout := clampHalf 1 120 r.openTimeout,
    minOpen := clampHalf 0 600 r.minOpen, demouldTries := min r.demouldTries.toNat 3,
    strokeTimeout := clampHalf 1 30 r.strokeTimeout }

end Sys2Proof

namespace Sys2Proof.Machine

/-- A segment of a recipe by number; none at and beyond the segment count (R160). -/
def Recipe.segmentAt (r : Recipe) (i : Nat) : Option Segment :=
  if h : i < 8 then if i < r.segmentCount then some (r.segments.get ⟨i, h⟩) else none else none

/-- The band lookup searches bands 0 to the band count less 1 (R160): the weight of the band with the greatest
lower bound no greater than `tc`, and 0 below the lowest bound (R109). Bounds rise with the number. -/
def Recipe.bandWeight (r : Recipe) (tc : Int) : Nat :=
  ((List.finRange 8).filter fun i => decide (i.val < r.bandCount)).foldl
    (fun w i => if ((r.bands.get i).lower : Int) ≤ tc then (r.bands.get i).weight else w) 0

end Sys2Proof.Machine
end

