-- ==== Sys2Proof/Machine/Reports.lean ====
section
/-!
DEFINITION. The layouts of the reports and records the part sends (R204 to R206): each function gives the
data bytes of an OK reply, after the status byte.
-/

namespace Sys2Proof.Machine

/-- A set of presses or positions as one byte (R204). -/
def setByte {n : Nat} (member : Fin n → Bool) : List Byte :=
  [BitVec.ofNat 8 (((List.finRange n).map fun i => if member i then 2 ^ i.val else 0).sum)]

/-- An optional four-byte time; the bytes of an absent part are 0 (R206). -/
def timeBytes (t : Option Nat) : List Byte := be32 (t.getD 0)

/-- A signed two-byte figure that may be none, sent as −32768 (R206, READ_SCALE). -/
def figureBytes (i : Option Int) : List Byte := sbe16 (i.getD (-32768))

/-! ## The part record (R206) -/

/-- The presence byte. -/
def Record.presence (r : Record) : Nat :=
  (if r.weighTime.isSome then 1 else 0) + (if r.loadTime.isSome then 2 else 0) +
  (if r.closingTime.isSome then 4 else 0) +
  (match r.cure with
   | some c => 8 + (if c.closeTime.isSome then 16 else 0)
   | none => 0) +
  (if r.demould.isSome then 32 else 0)

/-- The annotation's two bytes. -/
def annotationBytes : Option Annotation → List Byte
  | none => be8 0 ++ be8 0
  | some a => be8 (if a.pass then 1 else 2) ++ [a.inspector]

/-- The cure summary's bytes: all 0 where the summary is absent; in a summary, a coldest figure that is none is
sent as −32768 (R206; log entry 16). -/
def cureBytes : Option CureSummary → List Byte
  | none => List.replicate 25 0
  | some c =>
    timeBytes c.closeTime ++ be16 c.wall ++ be32 c.credit ++ be16 c.target ++ figureBytes c.coldMin ++
      figureBytes c.coldMax ++ be16 c.frozen ++ be32 c.shortfall ++ be16 c.dips ++
      be8 (Verdict.code c.verdict)

/-- The demould summary's bytes. -/
def demouldBytes : Option Demould → List Byte
  | none => be8 0 ++ be8 0
  | some d => be8 d.strokes ++ beBool d.cameFree

/-- A part record's 57 bytes. -/
def Record.bytes (r : Record) : List Byte :=
  be32 r.serial ++ be8 r.press.val ++ be8 r.slot.val ++ be16 r.revision ++ [r.tag] ++ sbe16 r.weight ++
  sbe16 r.deviation ++ be8 r.presence ++ timeBytes r.weighTime ++ timeBytes r.loadTime ++
  be8 (Disposition.code r.disposition) ++ be8 (PressFault.code r.cause) ++ timeBytes r.closingTime ++
  annotationBytes r.annotation ++ cureBytes r.cure ++ demouldBytes r.demould

/-! ## The recipe record (chapter 11) -/

/-- A stored segment's bytes. -/
def Segment.bytes (g : Segment) : List Byte :=
  be16 g.target ++ be16 g.rate ++ be16 g.hold ++ be8 g.endKind.code

/-- A stored band's bytes. -/
def Band.bytes (b : Band) : List Byte := be16 b.lower ++ be16 b.weight

/-- A stored recipe's 141 bytes. -/
def Recipe.bytes (r : Recipe) : List Byte :=
  (r.name ++ List.replicate (12 - r.name.length) 0) ++ be16 r.nominal ++ be16 r.tolerance ++
  be16 r.potLife ++ be8 r.segmentCount ++ be8 r.restSegment ++ r.segments.toList.flatMap Segment.bytes ++
  r.offsets.toList.flatMap sbe16 ++ be16 r.readyBand ++ be8 r.bandCount ++
  r.bands.toList.flatMap Band.bytes ++ be16 r.cureTarget ++ be16 r.minCure ++ be16 r.maxCure ++
  be16 r.overcure ++ beBool r.autoOpen ++ be16 r.closeTimeout ++ be16 r.openTimeout ++ be16 r.minOpen ++
  be8 r.demouldTries ++ be16 r.strokeTimeout

/-! ## Reports (chapter 11) -/

/-- A ticket's seven bytes in the press report; all 0 when absent. -/
def ticketBytes : Option Ticket → List Byte
  | none => be32 0 ++ be8 0 ++ be16 0
  | some t => be32 t.serial ++ [t.tag] ++ be16 (secondsLeft (some t.pot))

/-- The seven input levels of the press report. -/
def inputBytes (i : PressInputs) (guardOk : Bool) : List Byte :=
  beBool i.openLimit ++ beBool i.closedLimit ++ beBool i.tonnageOk ++ beBool i.ejectHome ++
  beBool i.ejectOut ++ beBool i.partFree ++ beBool guardOk

/-- The press report (R98). -/
def State.pressReport (s : State) (p : Fin 4) : List Byte :=
  let x := s.press p
  let o := s.boundRecord p
  be8 x.state.code ++ be8 (PressFault.code x.cause) ++ be8 (s.pressHeat p).mode.code ++
  be8 x.tickets.length ++ ticketBytes x.tickets.head? ++ ticketBytes (x.tickets.drop 1).head? ++
  be32 ((x.bound.map Bound.serial).getD 0) ++
  be16 (secondsLeft (x.bound.bind Bound.pot)) ++
  beBool ((o.map OpenRecord.aborted).getD false) ++ beBool ((o.map OpenRecord.expired).getD false) ++
  be32 x.cure.credit ++ be16 x.cure.target ++ be16 x.cure.wall ++ beBool x.cure.done ++
  beBool x.cure.limit ++ beBool (decide (x.state = .curing) && x.dip) ++ be8 (secondsLeft x.closeTimer) ++
  be8 (secondsLeft x.openTimer) ++ be8 (secondsLeft x.strokeTimer) ++ be16 (secondsLeft x.minOpen) ++
  be8 ((x.stroke.map Stroke.count).getD 0) ++ inputBytes (s.inputs.presses.get p) s.inputs.guardOk

/-- A zone's sixteen bytes in the zone report. -/
def Zone.bytes (z : Zone) : List Byte :=
  be8 z.state.code ++ be8 (ZoneFault.code z.cause) ++ sbe16 z.pv ++ beBool z.valid ++ sbe16 z.sp ++
  sbe16 z.demand ++ sbe8 z.requested ++ sbe8 z.granted ++ sbe8 z.carry ++ be32 z.starved

/-- The zone report (R24). -/
def State.zoneReport (s : State) (p : Fin 4) : List Byte :=
  let h := s.pressHeat p
  be8 h.mode.code ++ sbe16 h.standby ++ setByte h.heldSet.get ++ beBool h.ready ++ be8 h.profile.segment ++
  be8 h.profile.phase.code ++ be16 h.profile.secondsHeld ++ sbe16 h.profile.sp ++
  beBool h.profile.closeMark ++ beBool h.profile.openMark ++
  (List.finRange 6).flatMap fun i => (s.zone (zoneAt p i)).bytes

/-- An order's two bytes; press 255 for none (READ_SCALE). DESIGN CHOICE: with none, the tag byte is 0 (log entry
32). -/
def orderBytes : Option Order → List Byte
  | none => [0, 255]
  | some o => [o.tag, BitVec.ofNat 8 o.press.val]

/-- The eight order entries of the scale report; unused entries 0. -/
def queueBytes (q : List Order) : List Byte :=
  (q.flatMap fun o => orderBytes (some o)) ++ List.replicate (16 - 2 * q.length) 0

/-- avg, the latest average; undefined while fewer than 8 entries are held, when no average is held either
(R44). -/
def Station.avg (w : Station) : Option Int :=
  if w.window.length < 8 then none else w.averages.getLast?

/-- An order's press is eligible: heat mode RUN and fewer than 2 tickets (R53). -/
def State.eligible (s : State) (o : Order) : Bool :=
  decide ((s.pressHeat o.press).mode = .run) && decide ((s.press o.press).tickets.length < 2)

/-- The holding reason (R54): in EMPTY the first that applies, NONE in every other state. -/
def State.holding (s : State) : Holding :=
  if s.station.state ≠ .empty then .none
  else if s.station.zeroDue && decide (s.station.postponements = 4) then .zeroOverdue
  else if 1024 ≤ s.image.recordCount then .noRoom
  else if s.image.nextSerial.isNone then .noSerial
  else if s.station.queue.isEmpty then .noOrder
  else if !s.station.queue.any s.eligible then .noEligiblePress
  else .none

/-- The scale report (R68). -/
def State.scaleReport (s : State) : List Byte :=
  let w := s.station
  be8 w.state.code ++ be8 s.holding.code ++ orderBytes w.current ++ be8 w.queue.length ++
  queueBytes w.queue ++ figureBytes w.avg ++ be8 w.averages.length ++ beBool w.stable ++
  beBool (w.window.any Entry.isOver) ++ sbe32 w.offset ++ be8 w.chargesSinceZero ++ beBool w.zeroDue ++
  be8 w.postponements ++ be8 (secondsLeft w.settle) ++ be16 w.orderDrops

/-- The reset kind's code. -/
def ResetKind.code : ResetKind → Nat
  | .powerOn => 0
  | .warm => 1

/-- The recall result's code. -/
def RecallResult.code : RecallResult → Nat
  | .recalled => 0
  | .defaulted => 1

/-- The cell status report (R201). -/
def State.statusReport (s : State) : List Byte :=
  be8 s.retained.resetKind.code ++ be8 s.retained.recallResult.code ++ beBool s.clock.set ++
  be8 s.retained.memoryState ++ be16 s.link.discarded ++
  ((List.finRange 4).flatMap fun p => be8 (s.press p).state.code) ++ be8 s.station.state.code ++
  be8 s.image.openTable.length ++ be16 s.image.ring.count

/-- The counter snapshot (R182). -/
def Snapshot.bytes (x : Snapshot) : List Byte :=
  let c := x.counters
  be16 c.cycles.n ++ be16 c.good.n ++ be16 c.suspect.n ++ be16 c.scrap.n ++ be16 c.rejects.n ++
  be16 c.stuck.n ++ beBool c.cycles.saturated ++ beBool c.good.saturated ++ beBool c.suspect.saturated ++
  beBool c.scrap.saturated ++ beBool c.rejects.saturated ++ beBool c.stuck.saturated ++ beBool x.taken ++
  beBool x.time.isSome ++ timeBytes x.time ++ beBool x.cleared

/-- The six pending sets as READ_EVENTS sends them: for each source in code order, the count and then the
kind codes, ascending (R205). -/
def Link.pendingBytes (l : Link) : List Byte :=
  (List.finRange 6).flatMap fun i =>
    be8 (l.pending.get i).length ++ (l.pending.get i).map EventKind.code

/-- The mask as MASK_EVENTS sends it: the count and then the enabled kind codes, ascending (R205). -/
def Link.maskBytes (l : Link) : List Byte := be8 l.mask.length ++ l.mask.map EventKind.code

/-- The place of an open record's part: 1 QUEUED at the head, 2 QUEUED second, 3 BOUND (R137, R205). No
ticket or bound part with the serial, which R122 rules out, gives 0. -/
def State.placeOf (s : State) (serial : Nat) : Nat :=
  if (List.finRange 4).any fun p => decide (((s.press p).tickets.head?).map Ticket.serial = some serial) then 1
  else if (List.finRange 4).any fun p =>
      decide ((((s.press p).tickets.drop 1).head?).map Ticket.serial = some serial) then 2
  else if (List.finRange 4).any fun p => decide ((s.press p).bound.map Bound.serial = some serial) then 3
  else 0

end Sys2Proof.Machine
end

