-- ==== Sys2Proof/Machine/Heat.lean ====
section
/-!
DEFINITION. Platen zones and heat profiles (chapter 1): the zone operations, the heat requests, the arriving
reading, the slot boundary, and the Zone Controller's part of a frame boundary.
-/

namespace Sys2Proof.Machine

/-! ## Zones entering a state (R1, R7, R14, R18, R20, R40) -/

/-- A zone leaves heating: D, r and I become 0, its output is off from now on and its g and carry are 0 (R1,
R40). -/
def Zone.cut (z : Zone) : Zone :=
  { z with demand := 0, requested := 0, integ := 0, granted := 0, carry := 0, out := false }

/-- A zone enters OFF. -/
def Zone.enterOff (z : Zone) : Zone := { z.cut with state := .off, cause := none, sp := 0 }

/-- A zone enters DISABLED (R20). -/
def Zone.enterDisabled (z : Zone) : Zone := { z.cut with state := .disabled, cause := none, sp := 0 }

/-- A zone enters FAULT with the cause found; its SP keeps its value (R18). -/
def Zone.enterFault (z : Zone) (c : ZoneFault) : Zone := { z.cut with state := .fault, cause := some c }

/-- A zone enters ACTIVE or HELD, or stays there, with this setpoint; its integrator keeps its value (R7). -/
def Zone.enterHeated (z : Zone) (st : ZoneState) (sp : Int) : Zone :=
  { z with state := st, cause := none, sp := sp }

/-- The zone is neither FAULT nor DISABLED (R5). -/
def Zone.follows (z : Zone) : Bool := decide (z.state ≠ .fault) && decide (z.state ≠ .disabled)

/-- The zone is ACTIVE or HELD. -/
def Zone.heated (z : Zone) : Bool := decide (z.state = .active) || decide (z.state = .held)

/-- The mode state of a position (R5). -/
def PressHeat.modeState (h : PressHeat) (i : Fin 6) : ZoneState :=
  match h.mode with
  | .off => .off
  | .run => .active
  | .standby => if h.heldSet.get i then .held else .off

/-- The recipe's offset for a zone; a press in RUN always has a recipe (R6), so the 0 is never read. -/
def State.offsetOf (s : State) (z : Fin 24) : Int :=
  match s.recipeOf (zonePress z) with
  | some r => r.offsets.get (zonePos z)
  | none => 0

/-- The setpoint an ACTIVE zone is given (R14). -/
def State.activeSp (s : State) (z : Fin 24) : Int :=
  clamp 0 4000 ((s.pressHeat (zonePress z)).profile.sp + s.offsetOf z)

/-- A zone as it is when it enters its mode state (R5, R14). -/
def State.inModeState (s : State) (z : Fin 24) : Zone :=
  match (s.pressHeat (zonePress z)).modeState (zonePos z) with
  | .active => (s.zone z).enterHeated .active (s.activeSp z)
  | .held => (s.zone z).enterHeated .held (s.pressHeat (zonePress z)).standby
  | .off => (s.zone z).enterOff
  | .fault => (s.zone z).enterOff
  | .disabled => (s.zone z).enterOff

/-- A zone enters its mode state. -/
def State.toModeState (s : State) (z : Fin 24) : State := s.modZone z fun _ => s.inModeState z

/-- Every zone of a press that is neither FAULT nor DISABLED is moved to its mode state (R5). -/
def State.moveZones (s : State) (p : Fin 4) : State :=
  { s with
    zones := Tab.build fun z =>
      if zonePress z = p ∧ (s.zone z).follows then s.inModeState z else s.zone z }

/-! ## SET_HEAT_MODE (R6 to R8) -/

/-- The zones whose PV enters the starting setpoint (R8). -/
def State.startingPvs (s : State) (p : Fin 4) : List Int :=
  ((List.finRange 6).filter fun i => (s.zone (zoneAt p i)).follows && (s.zone (zoneAt p i)).valid).map
    fun i => (s.zone (zoneAt p i)).pv

/-- The starting profile setpoint: the mean of those PVs, rounded down, clamped; 0 without any (R8). -/
def State.startingSp (s : State) (p : Fin 4) : Int :=
  if s.startingPvs p = [] then 0
  else clamp 0 4000 ((s.startingPvs p).sum / (s.startingPvs p).length)

/-- The profile restarts (R8). -/
def State.restartProfile (s : State) (p : Fin 4) : State :=
  s.modHeat p fun h =>
    { h with profile := { segment := 0, phase := .ramp, secondsHeld := 0, sp := s.startingSp p,
                          closeMark := false, openMark := false } }

/-- The heat mode of a press is set (R7, R8). -/
def State.setMode (s : State) (p : Fin 4) (m : HeatMode) (standby : Int) (held : Tab Bool 6) : State :=
  if (s.pressHeat p).mode = m ∧ m ≠ .standby then s
  else
    match m with
    | .off => (s.modHeat p fun h => { h with mode := .off }).moveZones p
    | .run => ((s.modHeat p fun h => { h with mode := .run }).restartProfile p).moveZones p
    | .standby =>
      (s.modHeat p fun h => { h with mode := .standby, standby := standby, heldSet := held }).moveZones p

/-- A press in RUN may leave it: IDLE, no ticket, not the press of the current order (R6, check 3). -/
def State.mayLeaveRun (s : State) (p : Fin 4) : Bool :=
  decide ((s.press p).state = .idle) && (s.press p).tickets.isEmpty && !s.isCurrentPress p

/-- The checks of R6 in order. -/
def State.checkHeatMode (s : State) (p : Fin 4) (m : HeatMode) (standby : Half) (held : Byte) :
    Option Status :=
  if m = .standby ∧ (4000 < standby.toNat ∨ (heldSetOf held).isNone) then some .badValue
  else if (s.pressHeat p).mode = .run ∧ m ≠ .run ∧ !s.mayLeaveRun p then some .inUse
  else if (s.pressHeat p).mode ≠ .run ∧ m = .run ∧ (s.image.assigned.get p).isNone then some .wrongState
  else none

/-- The owner's act on SET_HEAT_MODE. -/
def ownSetHeatMode (press mode : Byte) (standby : Half) (held : Byte) (s : State) : State :=
  match pressNo press, heatModeOf mode with
  | some p, some m =>
    match s.checkHeatMode p m standby held with
    | some st => s.answer st []
    | none => (s.setMode p m standby.toNat ((heldSetOf held).getD (Tab.fill false))).answer .ok []
  | some _, none => s.answer .badValue []
  | none, _ => s.answer .badValue []

/-- SET_HEAT_MODE (R6, R7, R8). -/
def execSetHeatMode (tag press mode : Byte) (standby : Half) (held : Byte) (s : State) :
    Host.Outcome State Fault Refusal :=
  .next (s.serve 0x18 tag (press :: mode :: (halfBytes standby ++ [held]))
    (ownSetHeatMode press mode standby held))

/-! ## Zone requests (R19 to R21, R24) -/

/-- The owner's act on READ_ZONES. -/
def ownReadZones (press : Byte) (s : State) : State :=
  match pressNo press with
  | none => s.answer .badValue []
  | some p => s.answer .ok (s.zoneReport p)

/-- READ_ZONES (R24). -/
def execReadZones (tag press : Byte) (s : State) : Host.Outcome State Fault Refusal :=
  .next (s.serve 0x19 tag [press] (ownReadZones press))

/-- The owner's act on CLEAR_ZONE. -/
def ownClearZone (zone : Byte) (s : State) : State :=
  match zoneNo zone with
  | none => s.answer .badValue []
  | some z =>
    if (s.zone z).state = .fault then (s.toModeState z).answer .ok [] else s.answer .wrongState []

/-- CLEAR_ZONE (R19). -/
def execClearZone (tag zone : Byte) (s : State) : Host.Outcome State Fault Refusal :=
  .next (s.serve 0x1A tag [zone] (ownClearZone zone))

/-- The owner's act on DISABLE_ZONE. -/
def ownDisableZone (zone : Byte) (s : State) : State :=
  match zoneNo zone with
  | none => s.answer .badValue []
  | some z => (s.modZone z Zone.enterDisabled).answer .ok []

/-- DISABLE_ZONE (R20). -/
def execDisableZone (tag zone : Byte) (s : State) : Host.Outcome State Fault Refusal :=
  .next (s.serve 0x1B tag [zone] (ownDisableZone zone))

/-- The owner's act on ENABLE_ZONE. -/
def ownEnableZone (zone : Byte) (s : State) : State :=
  match zoneNo zone with
  | none => s.answer .badValue []
  | some z =>
    if (s.zone z).state = .disabled then (s.toModeState z).answer .ok [] else s.answer .wrongState []

/-- ENABLE_ZONE (R21). -/
def execEnableZone (tag zone : Byte) (s : State) : Host.Outcome State Fault Refusal :=
  .next (s.serve 0x1C tag [zone] (ownEnableZone zone))

/-! ## Zone faults (R17, R18) -/

/-- The zone fault test of a zone on a reading, with the overtemperature margin (R17). -/
def Zone.faultOn (z : Zone) (margin : Nat) : Reading → Option ZoneFault
  | .broken => if z.heated then some .break_ else none
  | .valid t => if z.heated && decide (z.sp + margin < t) then some .overtemp else none

/-- A zone after a finding. -/
def Zone.afterTest (z : Zone) : Option ZoneFault → Zone
  | some c => z.enterFault c
  | none => z

/-- ZONE_FAULT is raised on the press's source for a zone that faults (R18). -/
def State.raiseZoneFault (s : State) (z : Fin 24) (found : Option ZoneFault) : State :=
  if found.isSome then s.raise (.press (zonePress z)) .zoneFault else s

/-- A reading arrives: it becomes the zone's latest reading, and the zone is tested on it (R2, R17). DEDUCED: the
temperature tested is the one that is held, within −500 to 4500 (log entry 31). -/
def State.takeReading (s : State) (z : Fin 24) (x : Reading) : State :=
  let found := (s.zone z).faultOn s.image.settings.overMargin (heldReading x)
  (s.modZone z fun q => { q with latest := some (heldReading x) }.afterTest found).raiseZoneFault z found

/-- The Zone Controller takes readings while the part works; power-fall handling does not stop it until the
part stops (R151; log entry 17). -/
def Phase.reads : Phase → Bool
  | .running => true
  | .powerFall _ _ => true
  | .recalling => false
  | .waiting => false
  | .held => false
  | .stopped => false
  | .unpowered => false

/-- THERMOCOUPLE_READING (R2). -/
def execThermocoupleReading (z : Fin 24) (x : Reading) (s : State) : Host.Outcome State Fault Refusal :=
  .next (if s.phase.reads then (s.takeReading z x).pump else s)

/-! ## The slots of the frame (R26, R38, R39) -/

/-- The zone is placed on slot `j`: its run of g positions from `start`, taken modulo 20, reaches it (R38). -/
def Zone.placedOn (z : Zone) (j : Nat) : Bool :=
  decide ((((j + 20 - z.start % 20) % 20 : Nat) : Int) < z.granted)

/-- Slot `j` begins: every output is driven as the running frame's placement says; after slot 19 the frame has
no further slot, and nothing is driven (R26, R39). -/
def State.driveSlot (s : State) : State :=
  { s with
    zones := s.zones.mapWith fun _ z =>
      { z with out := decide (s.alloc.slot < 20) && z.heated && z.placedOn s.alloc.slot },
    alloc := { s.alloc with slot := if s.alloc.slot < 20 then s.alloc.slot + 1 else s.alloc.slot } }

/-- HEATER_SLOT (R39). -/
def execHeaterSlot (s : State) : Host.Outcome State Fault Refusal :=
  .next (if s.phase = .running then s.driveSlot else s)

/-! ## The frame boundary: readings, profiles, setpoints, demands (R3, R4, R9 to R16) -/

/-- A zone takes its PV and reading flag from its latest reading, which is consumed (R3). -/
def Zone.takePv (z : Zone) : Zone :=
  match z.latest with
  | some (.valid t) => { z with pv := t, valid := true, latest := none }
  | some .broken => { z with valid := false, latest := none }
  | none => { z with valid := false }

/-- The next segment: index + 1, or the rest segment after the last (R12). -/
def Recipe.nextSegment (r : Recipe) (i : Nat) : Nat :=
  if i + 1 < r.segmentCount then i + 1 else r.restSegment

/-- A segment ends (R12). -/
def Profile.endSegment (f : Profile) (r : Recipe) : Profile :=
  { f with segment := r.nextSegment f.segment, phase := .ramp, secondsHeld := 0 }

/-- The HOLD test of a segment's end kind, with seconds held as it stands (R11). -/
def Profile.holdTest (f : Profile) (r : Recipe) (g : Segment) : Profile :=
  match g.endKind with
  | .time => if g.hold ≤ f.secondsHeld then f.endSegment r else f
  | .atClose => if f.closeMark then { f with closeMark := false }.endSegment r else f
  | .atOpen => if f.openMark then { f with openMark := false }.endSegment r else f

/-- The profile setpoint one step nearer the target: by the rate, or all the way for a rate of 0 (R10). -/
def rampStep (sp target : Int) (rate : Nat) : Int :=
  if rate = 0 then target
  else if sp < target then min target (sp + rate)
  else max target (sp - rate)

/-- One advance of a profile (R10, R11). -/
def Profile.advance (f : Profile) (r : Recipe) : Profile :=
  match r.segmentAt f.segment with
  | none => f
  | some g =>
    match f.phase with
    | .ramp =>
      let f' := { f with sp := rampStep f.sp g.target g.rate }
      if f'.sp = (g.target : Int) then { f' with phase := .hold, secondsHeld := 0 }.holdTest r g else f'
    | .hold =>
      match g.endKind with
      | .time => { f with secondsHeld := f.secondsHeld + 1 }.holdTest r g
      | .atClose => f.holdTest r g
      | .atOpen => f.holdTest r g

/-- The profile of a press in RUN is advanced; any other keeps its values (R9). -/
def State.advancedHeat (s : State) (p : Fin 4) (h : PressHeat) : PressHeat :=
  match h.mode, s.recipeOf p with
  | .run, some r => { h with profile := h.profile.advance r }
  | .run, none => h
  | .off, _ => h
  | .standby, _ => h

/-- The setpoint of a zone at a boundary (R14). -/
def State.boundarySp (s : State) (i : Fin 24) (z : Zone) : Zone :=
  match z.state with
  | .active => { z with sp := s.activeSp i }
  | .held => { z with sp := (s.pressHeat (zonePress i)).standby }
  | .off => z
  | .fault => z
  | .disabled => z

/-- The fault test of a zone at a boundary, on its PV and reading flag (R17). -/
def Zone.boundaryFault (z : Zone) (margin : Nat) : Option ZoneFault :=
  z.faultOn margin (if z.valid then .valid z.pv else .broken)

/-- The error of the PI computation (R15, step 1). -/
def Zone.error (z : Zone) : Int := clamp (-1000) 1000 (z.sp - z.pv)

/-- The proportional part (R15, step 2). -/
def Zone.proportional (z : Zone) (t : Tuning) : Int := ((t.kp : Int) * z.error).tdiv 10

/-- The integrator after the frame (R15, steps 3 to 5). -/
def Zone.nextInteg (z : Zone) (t : Tuning) : Int :=
  let raw := z.proportional t + z.integ / 16
  if (1000 < raw ∧ 0 < z.error) ∨ (raw < 0 ∧ z.error < 0) then z.integ
  else clamp 0 16000 (z.integ + t.ki * z.error)

/-- The demand (R15, step 6). -/
def Zone.nextDemand (z : Zone) (t : Tuning) : Int :=
  clamp 0 1000 (z.proportional t + z.nextInteg t / 16)

/-- Requested slots of a demand (R16). -/
def slotsOf (d : Int) : Int := (d * 20 + 500) / 1000

/-- A zone's demand and requested slots at a boundary (R15, R16). -/
def Zone.compute (z : Zone) (t : Tuning) : Zone :=
  if z.heated && z.valid then
    { z with integ := z.nextInteg t, demand := z.nextDemand t, requested := slotsOf (z.nextDemand t) }
  else { z with integ := 0, demand := 0, requested := 0 }

/-- Steps 1 and 2 of R4: readings taken, profiles advanced. -/
def State.boundaryReadings (s : State) : State :=
  { s with
    zones := s.zones.mapWith fun _ z => z.takePv,
    heat := s.heat.mapWith fun p h => s.advancedHeat p h }

/-- Step 3 of R4: setpoints. -/
def State.boundarySetpoints (s : State) : State :=
  { s with zones := s.zones.mapWith fun i z => s.boundarySp i z }

/-- Step 4 of R4: the zone fault tests, with ZONE_FAULT raised for each zone that faults. -/
def State.boundaryFaults (s : State) : State :=
  let margin := s.image.settings.overMargin
  (List.finRange 24).foldl (fun t i => t.raiseZoneFault i ((s.zone i).boundaryFault margin))
    { s with zones := s.zones.mapWith fun _ z => z.afterTest (z.boundaryFault margin) }

/-- Steps 5 and 6 of R4: demands and requested slots. -/
def State.boundaryDemands (s : State) : State :=
  { s with zones := s.zones.mapWith fun i z => z.compute (s.image.tuning.get i) }

/-! ## Heat readiness (R22, R23) -/

/-- The profile is in an AT_CLOSE segment, in phase HOLD. -/
def Profile.atCloseHold (f : Profile) (r : Recipe) : Bool :=
  decide (f.phase = .hold) &&
    match r.segmentAt f.segment with
    | some g => decide (g.endKind = .atClose)
    | none => false

/-- The zone is ACTIVE with a VALID reading: counted for readiness (R22) and usable for cure (R106). -/
def Zone.usable (z : Zone) : Bool := decide (z.state = .active) && z.valid

/-- PV lies within the ready band of SP. -/
def Zone.inBand (z : Zone) (band : Nat) : Bool := decide ((z.pv - z.sp).natAbs ≤ band)

/-- Some zone of the press's upper platen is usable. -/
def State.upperUsable (s : State) (p : Fin 4) : Bool :=
  (s.zone (zoneAt p 0)).usable || (s.zone (zoneAt p 1)).usable || (s.zone (zoneAt p 2)).usable

/-- Some zone of the press's lower platen is usable. -/
def State.lowerUsable (s : State) (p : Fin 4) : Bool :=
  (s.zone (zoneAt p 3)).usable || (s.zone (zoneAt p 4)).usable || (s.zone (zoneAt p 5)).usable

/-- The press is heat-ready, from the state as it stands (R22). -/
def State.heatReady (s : State) (p : Fin 4) : Bool :=
  match s.recipeOf p with
  | none => false
  | some r =>
    decide ((s.pressHeat p).mode = .run) && (s.pressHeat p).profile.atCloseHold r &&
    ((List.finRange 6).all fun i =>
      !(s.zone (zoneAt p i)).usable || (s.zone (zoneAt p i)).inBand r.readyBand) &&
    s.upperUsable p && s.lowerUsable p

/-- The readiness of one press at a boundary: the ready flag, and HEAT_READY when it has become true (R23). -/
def State.readiness (s : State) (p : Fin 4) : State :=
  let ready := s.heatReady p
  let t := s.modHeat p fun h => { h with ready := ready }
  if ready && !(s.pressHeat p).ready then t.raise (.press p) .heatReady else t

/-- Step 7 of R4. -/
def State.boundaryReadiness (s : State) : State := (List.finRange 4).foldl State.readiness s

/-- The Zone Controller's work at a frame boundary, in the order of R4. -/
def State.zoneBoundary (s : State) : State :=
  s.boundaryReadings.boundarySetpoints.boundaryFaults.boundaryDemands.boundaryReadiness

end Sys2Proof.Machine
end

