-- ==== Sys2Proof/Machine/Allocation.lean ====
section
/-!
DEFINITION. Heater power allocation (chapter 2): the one allocation of a frame boundary.
-/

namespace Sys2Proof.Machine

/-- Pass order: ascending zone number from the pointer, wrapping from 23 to 0 (R31). -/
def passOrder (pointer : Fin 24) : List (Fin 24) := (List.finRange 24).map fun k => pointer + k

/-- The zone's press is in CLOSING or CURING: the cure class (R29). -/
def State.cureClass (s : State) (z : Fin 24) : Bool :=
  decide ((s.press (zonePress z)).state = .closing) || decide ((s.press (zonePress z)).state = .curing)

/-- A zone's entitlement E (R30). -/
def Zone.entitlement (z : Zone) : Int := clamp 0 20 (z.requested + z.carry)

/-- The extra the levelling pass gives a zone with this much capacity left (R34). -/
def Zone.extra (z : Zone) (left : Int) : Int :=
  min (20 - z.granted) (min left (8 + z.carry + z.requested - z.granted))

/-- The zones and the remaining capacity in the course of an allocation. -/
structure Allotment where
  zones : Tab Zone 24
  left : Int
deriving DecidableEq, Repr

/-- One zone of the cure or the normal pass: the smaller of its entitlement and the remaining capacity (R32,
R33). -/
def Allotment.grant (a : Allotment) (serves : Fin 24 → Bool) (i : Fin 24) : Allotment :=
  if (a.zones.get i).heated && serves i then
    let g := min (a.zones.get i).entitlement a.left
    ⟨a.zones.modify i fun z => { z with granted := g }, a.left - g⟩
  else a

/-- One zone of the levelling pass (R34). -/
def Allotment.level (a : Allotment) (serves : Fin 24 → Bool) (i : Fin 24) : Allotment :=
  if (a.zones.get i).heated && serves i then
    let x := (a.zones.get i).extra a.left
    if 0 < x then ⟨a.zones.modify i fun z => { z with granted := z.granted + x }, a.left - x⟩ else a
  else a

/-- The three passes, from zones with nothing granted and a capacity of 20 slots for each output of the limit
(R27, R32 to R34). -/
def State.passes (s : State) (limit : Nat) : Allotment :=
  let order := passOrder s.alloc.pointer
  let start : Allotment :=
    ⟨s.zones.mapWith fun _ z => { z with granted := 0 }, 20 * (limit : Int)⟩
  let cured := order.foldl (fun a i => a.grant s.cureClass i) start
  let normal := order.foldl (fun a i => a.grant (fun j => !s.cureClass j) i) cured
  if s.image.settings.levelling then
    order.foldl (fun a i => a.level (fun j => !s.cureClass j) i) normal
  else normal

/-- The raw carry of an eligible zone (R35). -/
def Zone.rawCarry (z : Zone) : Int := z.carry + z.requested - z.granted

/-- The slots dropped above +8; none from a zone that is not eligible (R36). -/
def Zone.dropped (z : Zone) : Nat := if z.heated then (z.rawCarry - 8).toNat else 0

/-- A zone's carry and starved-slot total after the passes; a zone not eligible has carry 0 (R29, R35, R36). -/
def Zone.settleCarry (z : Zone) : Zone :=
  if z.heated then
    { z with carry := min 8 z.rawCarry, starved := satAdd 4294967295 z.starved z.dropped }
  else { z with carry := 0 }

/-- The grants laid end to end in pass order, from position `pos` (R38). -/
def placeRuns : List (Fin 24) → Nat → Tab Zone 24 → Tab Zone 24
  | [], _, zones => zones
  | i :: rest, pos, zones =>
    placeRuns rest (pos + (zones.get i).granted.toNat)
      (zones.modify i fun z => { z with start := pos })

/-- The slots the zones of a press drop in an allocation. -/
def droppedBy (zones : Tab Zone 24) (p : Fin 4) : Nat :=
  ((List.finRange 6).map fun i => (zones.get (zoneAt p i)).dropped).sum

/-- SHORTFALL is raised for a press whose zones drop slots, and while it is CURING the same slots are added to
the shortfall of its bound part (R36, R37). -/
def State.chargeShortfall (zones : Tab Zone 24) (s : State) (p : Fin 4) : State :=
  let n := droppedBy zones p
  if n = 0 then s
  else
    let t := s.raise (.press p) .shortfall
    if (s.press p).state = .curing then
      t.writeBound p fun o =>
        o.onCure fun c => { c with shortfall := satAdd 4294967295 c.shortfall n }
    else t

/-- The allocation (R28): the limit is taken, the passes grant, carries are settled, the runs are placed, every
output waits for the frame's first slot (log entry 13), and the pointer advances. -/
def State.allocate (s : State) : State :=
  let limit := s.image.settings.demandLimit
  let granted := (s.passes limit).zones
  let settled := granted.mapWith fun _ z => { z.settleCarry with out := false }
  let placed := placeRuns (passOrder s.alloc.pointer) 0 settled
  (List.finRange 4).foldl (State.chargeShortfall granted)
    { s with
      zones := placed,
      alloc := { pointer := s.alloc.pointer + 1, limit := some limit, slot := 0 } }

end Sys2Proof.Machine
end

