-- ==== Sys2Proof/Machine/Curing.lean ====
section
/-!
DEFINITION. Cure accounting (chapter 5): the adjusted target, the counting of a boundary, and the verdict.
-/

namespace Sys2Proof.Machine

/-- The adjusted target of a weight W under a nominal weight and a cure target (R102). -/
def adjustedTarget (cureTarget weight nominal : Nat) : Nat :=
  (cureTarget * 16 * weight + nominal / 2) / nominal

/-- The Cure Accountant as a LOAD leaves it, with this adjusted target (R101). -/
def Cure.afterLoad (target : Nat) : Cure := { Cure.reset with target := target }

/-- The usable zone temperatures of a press, both platens together (R106, R109). -/
def State.usablePvs (s : State) (p : Fin 4) : List Int :=
  ((List.finRange 6).filter fun i => (s.zone (zoneAt p i)).usable).map fun i => (s.zone (zoneAt p i)).pv

/-- The smallest of some temperatures; none of none. -/
def coldest : List Int → Option Int
  | [] => none
  | t :: rest =>
    match coldest rest with
    | none => some t
    | some u => some (min t u)

/-- The coldest minimum or maximum after a counting frame (R110). -/
def colder (old : Option Int) (tc : Int) : Option Int :=
  match old with
  | none => some tc
  | some m => if tc < m then some tc else some m

/-- The coldest maximum after a counting frame (R110). -/
def warmer (old : Option Int) (tc : Int) : Option Int :=
  match old with
  | none => some tc
  | some m => if m < tc then some tc else some m

/-- A counting frame (R109, R110). -/
def Cure.earn (c : Cure) (r : Recipe) (tc : Int) : Cure :=
  { c with
    credit := satAdd 1000000 c.credit (r.bandWeight tc),
    coldMin := colder c.coldMin tc,
    coldMax := warmer c.coldMax tc }

/-- A frame that does not count (R108). -/
def Cure.freeze (c : Cure) : Cure := { c with frozen := satAdd 65535 c.frozen 1 }

/-- Both platens of the press have a usable zone (R107). -/
def State.bothPlatens (s : State) (p : Fin 4) : Bool := s.upperUsable p && s.lowerUsable p

/-- The frame counts: no dip and a usable zone on each platen (R108). -/
def State.frameCounts (s : State) (p : Fin 4) : Bool := !(s.press p).dip && s.bothPlatens p

/-- Steps 1 to 4 of R105: the loss flag, the credit or the frozen frames, the wall frames. -/
def State.countedCure (s : State) (p : Fin 4) (r : Recipe) : Cure :=
  let c := { (s.press p).cure with loss := !s.bothPlatens p }
  let c' :=
    match s.frameCounts p, coldest (s.usablePvs p) with
    | true, some tc => c.earn r tc
    | true, none => c.freeze
    | false, _ => c.freeze
  { c' with wall := satAdd 65535 c'.wall 1 }

/-- The completion test (R112). -/
def Cure.completes (c : Cure) (r : Recipe) : Bool :=
  !c.done && decide (c.target ≤ c.credit) && decide (r.minCure ≤ c.wall)

/-- The time-limit test (R113). -/
def Cure.limits (c : Cure) (r : Recipe) : Bool := !c.limit && decide (c.wall = r.maxCure)

/-- A cure summary holding the Cure Accountant's figures (R104). -/
def CureSummary.withFigures (u : CureSummary) (c : Cure) : CureSummary :=
  { u with wall := c.wall, credit := c.credit, frozen := c.frozen, coldMin := c.coldMin,
           coldMax := c.coldMax }

/-- One boundary counted for a press in CURING (R105). -/
def State.countFrame (s : State) (p : Fin 4) (r : Recipe) : State :=
  let c := s.countedCure p r
  let lost := c.loss && !(s.press p).cure.loss
  let done := c.completes r
  let limit := c.limits r
  let c' := { c with done := c.done || done, limit := c.limit || limit }
  let s1 := if lost then s.raise (.press p) .heatLoss else s
  let s2 := if done then s1.raise (.press p) .cureDone else s1
  let s3 := if limit then s2.raise (.press p) .cureLimit else s2
  (s3.modPress p fun x => { x with cure := c' }).writeBound p fun o => o.onCure fun u => u.withFigures c'

/-- The press is told to open at this boundary: CURE_DONE is raised, or CURE_LIMIT is raised and CURE_DONE has
not been, with AUTO_OPEN on (R86). -/
def State.autoOpens (s : State) (p : Fin 4) (r : Recipe) : Bool :=
  let c := s.countedCure p r
  r.autoOpen && (c.completes r || (c.limits r && !c.done))

/-! ## The verdict (R114) -/

/-- The verdict of a cure under an overcure factor. -/
def Cure.verdictFor (c : Cure) (overcure : Nat) : Verdict :=
  if c.credit < c.target then .under
  else if c.target * overcure < c.credit * 16 then .over_
  else .normal

/-- The verdict is fixed and written into the cure summary of the bound part's record (R114). A press in CURING
has a recipe (R119), so the 0 is never read. -/
def State.fixVerdict (s : State) (p : Fin 4) : State :=
  let factor :=
    match s.recipeOf p with
    | some r => r.overcure
    | none => 0
  let v := (s.press p).cure.verdictFor factor
  (s.modPress p fun x => { x with cure := { x.cure with verdict := some v } }).writeBound p fun o =>
    o.onCure fun u => { u with verdict := some v }

end Sys2Proof.Machine
end

