-- ==== Sys2Proof/Machine/PressCycle.lean ====
section
/-!
DEFINITION. The press cycle (chapter 4): the operations of a Press Sequencer, its requests, its input
events and its timers.
-/

namespace Sys2Proof.Machine

/-! ## States, valves, marks -/

/-- A press enters a state, or a phase of a stroke: its valves are driven as R73 says. -/
def Press.enter (x : Press) (st : PressState) (stroke : Option Stroke) : Press :=
  { x with state := st, stroke := stroke, valves := valvesFor st stroke }

/-- A figure of the press's recipe. A press that reads one has a recipe (R162, R169), so the 0 is never
used. -/
def State.recipeFigure (s : State) (p : Fin 4) (f : Recipe → Nat) : Nat :=
  match s.recipeOf p with
  | some r => f r
  | none => 0

/-- The close mark of a press's profile is set (R13, R82). -/
def State.setCloseMark (s : State) (p : Fin 4) : State :=
  s.modHeat p fun h => { h with profile := { h.profile with closeMark := true } }

/-- The open mark is set (R13, R87). -/
def State.setOpenMark (s : State) (p : Fin 4) : State :=
  s.modHeat p fun h => { h with profile := { h.profile with openMark := true } }

/-- What leaving CURING does, by whatever path: the open mark is set and the verdict fixed (R87, R96). A press in
another state leaves nothing. -/
def State.leaveCuring (s : State) (p : Fin 4) : State :=
  if (s.press p).state = .curing then (s.setOpenMark p).fixVerdict p else s

/-! ## Writes into the bound part's record -/

/-- The demould summary is written (R92, R93). -/
def State.writeDemould (s : State) (p : Fin 4) (strokes : Nat) (free : Bool) : State :=
  s.writeBound p fun o => { o with record := { o.record with demould := some ⟨strokes, free⟩ } }

/-- The record of the bound part is closed and the bound part cleared. -/
def State.closeBound (s : State) (p : Fin 4) (d : Disposition) (cause : Option PressFault) : State :=
  match (s.press p).bound with
  | some b => (s.closeRecord b.serial d cause).modPress p fun x => { x with bound := none }
  | none => s

/-! ## FAULT (R96) -/

/-- A press enters FAULT with a cause (R96). -/
def State.enterFault (s : State) (p : Fin 4) (c : PressFault) : State :=
  let s1 := s.leaveCuring p
  let s2 := s1.modPress p fun x =>
    { x.enter .fault none with closeTimer := none, openTimer := none, strokeTimer := none, cause := some c }
  (s2.closeBound p .scrapFault (some c)).raise (.press p) .pressFault

/-! ## CURING, opening, strokes (R82, R84, R87, R89, R91, R92) -/

/-- The cure summary a record gains on entering CURING (R103). -/
def newSummary (closeTime : Option Nat) (target : Nat) : CureSummary :=
  { closeTime := closeTime, wall := 0, credit := 0, target := target, coldMin := none, coldMax := none,
    frozen := 0, shortfall := 0, dips := 0, verdict := none }

/-- A press enters CURING (R82, R103). -/
def State.enterCuring (s : State) (p : Fin 4) : State :=
  let summary := newSummary s.clock.stamp (s.press p).cure.target
  ((s.modPress p fun x => { x.enter .curing none with closeTimer := none, dip := false }).setCloseMark
    p).writeBound p fun o => { o with record := { o.record with cure := some summary } }

/-- A pressure dip begins (R84). -/
def State.beginDip (s : State) (p : Fin 4) : State :=
  ((s.modPress p fun x => { x with dip := true }).writeBound p fun o =>
    o.onCure fun u => { u with dips := satAdd 65535 u.dips 1 }).raise (.press p) .pressureDip

/-- A press starts to open (R87). -/
def State.startToOpen (s : State) (p : Fin 4) : State :=
  (s.leaveCuring p).modPress p fun x =>
    { x.enter .opening none with
      openTimer := some (seconds (s.recipeFigure p Recipe.openTimeout)), closeTimer := none }

/-- Stroke `k` begins: its out phase, with EJECT_VALVE on and the stroke timer started (R91). -/
def State.beginStroke (s : State) (p : Fin 4) (k : Nat) : State :=
  s.modPress p fun x =>
    { x.enter .ejecting (some ⟨k, .out⟩) with
      strokeTimer := some (seconds (s.recipeFigure p Recipe.strokeTimeout)) }

/-- EJECT_OUT is met in the out phase (R91). -/
def State.strokeBack (s : State) (p : Fin 4) (k : Nat) : State :=
  s.modPress p fun x =>
    { x.enter .ejecting (some ⟨k, .back⟩) with
      strokeTimer := some (seconds (s.recipeFigure p Recipe.strokeTimeout)) }

/-- The press enters UNLOAD and DEMOULD_DONE is raised (R89, R92). -/
def State.enterUnload (s : State) (p : Fin 4) : State :=
  (s.modPress p fun x => x.enter .unload none).raise (.press p) .demouldDone

/-- OPEN_LIMIT is met in OPENING (R89, R81). -/
def State.openLimitReached (s : State) (p : Fin 4) : State :=
  let t := s.modPress p fun x =>
    { x with openTimer := none, minOpen := startTimer (s.recipeFigure p Recipe.minOpen) }
  if s.recipeFigure p Recipe.demouldTries = 0 then t.enterUnload p else t.beginStroke p 1

/-- The stuck counter of a press grows (R92, R177). -/
def State.bumpStuck (s : State) (p : Fin 4) : State :=
  s.writeImage fun m => { m with counters := m.counters.modify p fun c => { c with stuck := c.stuck.bump } }

/-- The cycles counter of a press grows; a counter already full and marked is not altered, and then nothing is
changed (R80, R178, R179). -/
def State.bumpCycles (s : State) (p : Fin 4) : State :=
  if (s.image.counters.get p).cycles.bump = (s.image.counters.get p).cycles then s
  else
    s.writeImage fun m =>
      { m with counters := m.counters.modify p fun c => { c with cycles := c.cycles.bump } }

/-- Stroke `k` ends, with PART_FREE as it stands (R92). -/
def State.endStroke (s : State) (p : Fin 4) (k : Nat) : State :=
  let t := s.modPress p fun x => { x with strokeTimer := none }
  if (s.inputs.presses.get p).partFree then (t.writeDemould p k true).enterUnload p
  else if k < s.recipeFigure p Recipe.demouldTries then t.beginStroke p (k + 1)
  else ((t.writeDemould p k false).bumpStuck p).enterFault p .stuckPart

/-! ## Conditions on the inputs (R71) -/

/-- The condition the press waits for, if it holds now: what the press does on it (R71, R82, R84, R89, R91, R92,
R95). -/
def State.pressCondition (s : State) (p : Fin 4) : Option State :=
  let x := s.press p
  let i := s.inputs.presses.get p
  match x.state with
  | .closing => if i.closedLimit && i.tonnageOk then some (s.enterCuring p) else none
  | .curing =>
    if i.closedLimit && i.tonnageOk then
      if x.dip then some (s.modPress p fun y => { y with dip := false }) else none
    else if x.dip then none else some (s.beginDip p)
  | .opening => if i.openLimit then some (s.openLimitReached p) else none
  | .ejecting =>
    match x.stroke with
    | some ⟨k, .out⟩ => if i.ejectOut then some (s.strokeBack p k) else none
    | some ⟨k, .back⟩ => if i.ejectHome then some (s.endStroke p k) else none
    | none => none
  | .idle => if i.openLimit then none else some (s.enterFault p .drift)
  | .loaded => if i.openLimit then none else some (s.enterFault p .drift)
  | .unload => if i.openLimit then none else some (s.enterFault p .drift)
  | .fault => none

/-- Every condition that holds already is met at once, one after another, at most `n` of them (R71). -/
def State.settlePress : Nat → State → Fin 4 → State
  | 0, s, _ => s
  | n + 1, s, p =>
    match s.pressCondition p with
    | some t => State.settlePress n t p
    | none => s

/-- Every condition that holds already is met at once. Eight are the most that can follow one another: OPENING,
three strokes of two phases, UNLOAD and a drift there. -/
def State.settled (s : State) (p : Fin 4) : State := State.settlePress 8 s p

/-! ## Requests (R77 to R80, R85, R88, R94, R97, R98) -/

/-- The checks of LOAD, in order; no status when it is taken (R77). -/
def State.checkLoad (s : State) (p : Fin 4) (serial : Nat) : Option Status :=
  if (s.press p).state ≠ .idle then some .wrongState
  else if (s.pressHeat p).mode ≠ .run then some .wrongState
  else if !(s.press p).tickets.any fun t => decide (t.serial = serial) then some .notFound
  else if (s.press p).tickets.head?.map Ticket.serial ≠ some serial then some .wrongTicket
  else none

/-- The adjusted target of the charge with this serial, from its captured weight and the press's recipe (R102). -/
def State.targetFor (s : State) (p : Fin 4) (serial : Nat) : Nat :=
  match s.image.openRecord serial, s.recipeOf p with
  | some o, some r => adjustedTarget r.cureTarget o.record.weight.toNat r.nominal
  | some _, none => 0
  | none, _ => 0

/-- The load time is written, when the clock is SET (R78, R187). -/
def State.writeLoadTime (s : State) (serial : Nat) : State :=
  match s.clock.stamp with
  | some t => s.writeOpen serial fun o => { o with record := { o.record with loadTime := some t } }
  | none => s

/-- LOAD taken: the head ticket is bound (R78, R101). -/
def State.loadTicket (s : State) (p : Fin 4) (t : Ticket) : State :=
  (s.writeLoadTime t.serial).modPress p fun x =>
    { x.enter .loaded none with
      tickets := x.tickets.tail,
      bound := some ⟨t.serial, t.tag, some t.pot⟩,
      cure := Cure.afterLoad (s.targetFor p t.serial) }

/-- The owner's act on LOAD. -/
def ownLoad (press : Byte) (serial : Word) (s : State) : State :=
  match pressNo press with
  | none => s.answer .badValue []
  | some p =>
    match s.checkLoad p serial.toNat, (s.press p).tickets.head? with
    | some st, _ => s.answer st []
    | none, some t => (s.loadTicket p t).answer .ok []
    | none, none => s.answer .notFound []

/-- LOAD (R77, R78). -/
def execLoad (tag press : Byte) (serial : Word) (s : State) : Host.Outcome State Fault Refusal :=
  .next (s.serve 0x28 tag (press :: wordBytes serial) (ownLoad press serial))

/-- The checks of CLOSE, in order (R79). -/
def State.checkClose (s : State) (p : Fin 4) : Option Status :=
  if (s.press p).state ≠ .loaded then some .wrongState
  else if !s.inputs.guardOk then some .guardOpen
  else if !s.heatReady p then some .notReady
  else if (s.press p).minOpen.isSome then some .tooSoon
  else none

/-- CLOSE taken (R80). -/
def State.startClosing (s : State) (p : Fin 4) : State :=
  (s.bumpCycles p).modPress p fun x =>
    { x.enter .closing none with
      closeTimer := some (seconds (s.recipeFigure p Recipe.closeTimeout)),
      bound := x.bound.map fun b => { b with pot := none } }

/-- The owner's act on CLOSE. -/
def ownClose (press : Byte) (s : State) : State :=
  match pressNo press with
  | none => s.answer .badValue []
  | some p =>
    match s.checkClose p with
    | some st => s.answer st []
    | none => ((s.startClosing p).settled p).answer .ok []

/-- CLOSE (R79 to R82). -/
def execClose (tag press : Byte) (s : State) : Host.Outcome State Fault Refusal :=
  .next (s.serve 0x29 tag [press] (ownClose press))

/-- The owner's act on OPEN (R85). -/
def ownOpen (press : Byte) (s : State) : State :=
  match pressNo press with
  | none => s.answer .badValue []
  | some p =>
    if (s.press p).state ≠ .curing then s.answer .wrongState []
    else if (s.press p).cure.wall < s.recipeFigure p Recipe.minCure then s.answer .tooSoon []
    else ((s.startToOpen p).settled p).answer .ok []

/-- OPEN (R85, R87). -/
def execOpen (tag press : Byte) (s : State) : Host.Outcome State Fault Refusal :=
  .next (s.serve 0x2A tag [press] (ownOpen press))

/-- The aborted mark of the bound part's record is set (R88, R121). -/
def State.markAborted (s : State) (p : Fin 4) : State :=
  s.writeBound p fun o => { o with aborted := true }

/-- ABORT in LOADED: the record is closed SCRAP_ABORTED and the press is IDLE (R88). -/
def State.abortLoaded (s : State) (p : Fin 4) : State :=
  (s.closeBound p .scrapAborted none).modPress p fun x => x.enter .idle none

/-- The owner's act on ABORT (R88). -/
def ownAbort (press : Byte) (s : State) : State :=
  match pressNo press with
  | none => s.answer .badValue []
  | some p =>
    match (s.press p).state with
    | .loaded => (s.abortLoaded p).answer .ok []
    | .closing => (((s.markAborted p).startToOpen p).settled p).answer .ok []
    | .curing => (((s.markAborted p).startToOpen p).settled p).answer .ok []
    | .idle => s.answer .wrongState []
    | .opening => s.answer .wrongState []
    | .ejecting => s.answer .wrongState []
    | .unload => s.answer .wrongState []
    | .fault => s.answer .wrongState []

/-- ABORT (R88). -/
def execAbort (tag press : Byte) (s : State) : Host.Outcome State Fault Refusal :=
  .next (s.serve 0x2B tag [press] (ownAbort press))

/-- The record's verdict, frozen frames, shortfall slots or pressure dips make the part SUSPECT (R130, line 3). -/
def Record.suspect (r : Record) : Bool :=
  match r.cure with
  | none => false
  | some u =>
    decide (u.verdict = some .under) || decide (u.verdict = some .over_) || decide (0 < u.frozen) ||
      decide (0 < u.shortfall) || decide (0 < u.dips)

/-- The disposition at RELEASE, by the first line that holds (R130). -/
def OpenRecord.releaseDisposition (o : OpenRecord) : Disposition :=
  if o.aborted then .scrapAborted
  else if o.expired then .scrapExpired
  else if o.record.suspect then .suspect
  else .good

/-- RELEASE taken (R94). A bound part always has its record (R122), so the default is never read. -/
def State.releasePart (s : State) (p : Fin 4) : State :=
  (s.closeBound p (((s.boundRecord p).map OpenRecord.releaseDisposition).getD .good) none).modPress p
    fun x => x.enter .idle none

/-- The owner's act on RELEASE. -/
def ownRelease (press : Byte) (s : State) : State :=
  match pressNo press with
  | none => s.answer .badValue []
  | some p =>
    if (s.press p).state = .unload then (s.releasePart p).answer .ok [] else s.answer .wrongState []

/-- RELEASE (R94). -/
def execRelease (tag press : Byte) (s : State) : Host.Outcome State Fault Refusal :=
  .next (s.serve 0x2C tag [press] (ownRelease press))

/-- CLEAR_FAULT taken (R97). -/
def Press.clearFault (x : Press) : Press := { x.enter .idle none with cause := none, minOpen := none }

/-- The owner's act on CLEAR_FAULT. -/
def ownClearFault (press : Byte) (s : State) : State :=
  match pressNo press with
  | none => s.answer .badValue []
  | some p =>
    if (s.press p).state ≠ .fault then s.answer .wrongState []
    else if (s.inputs.presses.get p).openLimit && (s.inputs.presses.get p).ejectHome then
      (s.modPress p Press.clearFault).answer .ok []
    else s.answer .notSafe []

/-- CLEAR_FAULT (R97). -/
def execClearFault (tag press : Byte) (s : State) : Host.Outcome State Fault Refusal :=
  .next (s.serve 0x2D tag [press] (ownClearFault press))

/-- The owner's act on READ_PRESS. -/
def ownReadPress (press : Byte) (s : State) : State :=
  match pressNo press with
  | none => s.answer .badValue []
  | some p => s.answer .ok (s.pressReport p)

/-- READ_PRESS (R98). -/
def execReadPress (tag press : Byte) (s : State) : Host.Outcome State Fault Refusal :=
  .next (s.serve 0x2E tag [press] (ownReadPress press))

/-! ## Pot life (R75, R76) -/

/-- A queued ticket's pot life expires (R75). -/
def State.expireTicket (s : State) (p : Fin 4) (serial : Nat) : State :=
  if (s.press p).tickets.any fun t => decide (t.serial = serial) then
    ((s.closeRecord serial .scrapExpired none).modPress p fun x =>
      { x with tickets := x.tickets.filter fun t => !decide (t.serial = serial) }).raise (.press p)
      .ticketExpired
  else s

/-- TICKET_POT_LIFE_EXPIRY (R75). -/
def execTicketPotLifeExpiry (p : Fin 4) (serial : Word) (s : State) : Host.Outcome State Fault Refusal :=
  .next (plantEvent s fun t => t.expireTicket p serial.toNat)

/-- The bound part's pot-life timer runs and the press is in LOADED (R76). -/
def Press.boundTimerRuns (x : Press) : Bool :=
  decide (x.state = .loaded) &&
    match x.bound with
    | some b => b.pot.isSome
    | none => false

/-- The bound part's pot life expires in LOADED (R76). -/
def State.expireBound (s : State) (p : Fin 4) : State :=
  if (s.press p).boundTimerRuns then
    ((s.writeBound p fun o => { o with expired := true }).modPress p fun x =>
      { x with bound := x.bound.map fun b => { b with pot := none } }).raise (.press p) .ticketExpired
  else s

/-- BOUND_POT_LIFE_EXPIRY (R76). -/
def execBoundPotLifeExpiry (p : Fin 4) (s : State) : Host.Outcome State Fault Refusal :=
  .next (plantEvent s fun t => t.expireBound p)

/-! ## Input events (R71, R207) -/

/-- The lines with press `p`'s six at these levels, and GUARD_OK high if it has risen. -/
def Lines.at (l : Lines) (p : Fin 4) (levels : PressInputs) (guardRise : Bool) : Lines :=
  { l with presses := l.presses.set p levels, guardOk := l.guardOk || guardRise }

/-- An input event at a press. The lines take the levels; while the part works they are passed on, and the
press acts on every condition that now holds (R71). At any other time no input event is acted on, and the
debounced levels stay until the reset completes (R100, R153, R207). -/
def inputEvent (p : Fin 4) (levels : PressInputs) (guardRise : Bool) (s : State) : State :=
  let t := { s with lines := s.lines.at p levels guardRise }
  if s.phase = .running then
    plantEvent { t with inputs := s.inputs.at p levels guardRise } fun u => u.settled p
  else t

/-- CURING_CONDITION_MET: CLOSED_LIMIT and TONNAGE_OK are high together (R82). -/
def execCuringConditionMet (p : Fin 4) (levels : PressInputs) (guardRise : Bool) (s : State) :
    Host.Outcome State Fault Refusal :=
  .next (inputEvent p { levels with closedLimit := true, tonnageOk := true } guardRise s)

/-- The levels with one of the two inputs of R84 low. -/
def lowInput (d : DipInput) (levels : PressInputs) : PressInputs :=
  match d with
  | .closedLimit => { levels with closedLimit := false }
  | .tonnageOk => { levels with tonnageOk := false }

/-- PRESSURE_DIP: CLOSED_LIMIT or TONNAGE_OK falls (R84). -/
def execPressureDip (p : Fin 4) (fallen : DipInput) (levels : PressInputs) (guardRise : Bool) (s : State) :
    Host.Outcome State Fault Refusal :=
  .next (inputEvent p (lowInput fallen levels) guardRise s)

/-- PRESSURE_DIP_END: CLOSED_LIMIT and TONNAGE_OK become high together again (R84). -/
def execPressureDipEnd (p : Fin 4) (levels : PressInputs) (guardRise : Bool) (s : State) :
    Host.Outcome State Fault Refusal :=
  .next (inputEvent p { levels with closedLimit := true, tonnageOk := true } guardRise s)

/-- OPEN_LIMIT_MET: OPEN_LIMIT is high (R89). -/
def execOpenLimitMet (p : Fin 4) (levels : PressInputs) (guardRise : Bool) (s : State) :
    Host.Outcome State Fault Refusal :=
  .next (inputEvent p { levels with openLimit := true } guardRise s)

/-- EJECT_OUT_MET: EJECT_OUT is high (R91). -/
def execEjectOutMet (p : Fin 4) (levels : PressInputs) (guardRise : Bool) (s : State) :
    Host.Outcome State Fault Refusal :=
  .next (inputEvent p { levels with ejectOut := true } guardRise s)

/-- EJECT_HOME_MET: EJECT_HOME is high (R91, R92). -/
def execEjectHomeMet (p : Fin 4) (levels : PressInputs) (guardRise : Bool) (s : State) :
    Host.Outcome State Fault Refusal :=
  .next (inputEvent p { levels with ejectHome := true } guardRise s)

/-- OPEN_LIMIT_DRIFT: OPEN_LIMIT is low (R95). -/
def execOpenLimitDrift (p : Fin 4) (levels : PressInputs) (guardRise : Bool) (s : State) :
    Host.Outcome State Fault Refusal :=
  .next (inputEvent p { levels with openLimit := false } guardRise s)

/-- The states in which a valve may be driven, and in which an open guard faults the press (R72). -/
def PressState.moving : PressState → Bool
  | .closing => true
  | .curing => true
  | .opening => true
  | .ejecting => true
  | .idle => false
  | .loaded => false
  | .unload => false
  | .fault => false

/-- A guard fault in EJECTING first writes the demould summary from the stroke in progress (R93, R127). -/
def State.cutStroke (s : State) (p : Fin 4) : State :=
  match (s.press p).state, (s.press p).stroke with
  | .ejecting, some k => s.writeDemould p k.count false
  | _, _ => s

/-- GUARD_OK low at one press (R72, R93). -/
def State.guardAt (s : State) (p : Fin 4) : State :=
  if (s.press p).state.moving then (s.cutStroke p).enterFault p .guard else s

/-- GUARD_OK falls: an input event at each of the four presses (R71, R72). DESIGN CHOICE: the presses act in ascending
order, so the records of several faulted presses enter the ring in that order (log entry 34). -/
def State.guardFalls (s : State) : State :=
  (List.finRange 4).foldl (fun t p => oneChange t (t.guardAt p))
    { s with inputs := { s.inputs with guardOk := false } }

/-- GUARD_OK_FALL (R72). -/
def execGuardOkFall (s : State) : Host.Outcome State Fault Refusal :=
  let t := { s with lines := { s.lines with guardOk := false } }
  .next (if s.phase = .running then t.guardFalls.pump else t)

/-! ## Timers (R81, R83, R90, R93) -/

/-- The close timer expires in CLOSING (R83). -/
def State.closeExpires (s : State) (p : Fin 4) : State :=
  if (s.press p).state = .closing ∧ (s.press p).closeTimer.isSome then s.enterFault p .closeTimeout else s

/-- CLOSE_TIMER_EXPIRY (R83). -/
def execCloseTimerExpiry (p : Fin 4) (s : State) : Host.Outcome State Fault Refusal :=
  .next (plantEvent s fun t => t.closeExpires p)

/-- The open timer expires in OPENING (R90). -/
def State.openExpires (s : State) (p : Fin 4) : State :=
  if (s.press p).state = .opening ∧ (s.press p).openTimer.isSome then s.enterFault p .openTimeout else s

/-- OPEN_TIMER_EXPIRY (R90). -/
def execOpenTimerExpiry (p : Fin 4) (s : State) : Host.Outcome State Fault Refusal :=
  .next (plantEvent s fun t => t.openExpires p)

/-- The stroke timer expires in either phase (R93). -/
def State.strokeExpires (s : State) (p : Fin 4) : State :=
  if (s.press p).state = .ejecting ∧ (s.press p).strokeTimer.isSome then
    (s.cutStroke p).enterFault p .ejectTimeout
  else s

/-- STROKE_TIMER_EXPIRY (R93). -/
def execStrokeTimerExpiry (p : Fin 4) (s : State) : Host.Outcome State Fault Refusal :=
  .next (plantEvent s fun t => t.strokeExpires p)

/-- The minimum-open time has passed (R81). -/
def State.minOpenElapses (s : State) (p : Fin 4) : State := s.modPress p fun x => { x with minOpen := none }

/-- MINIMUM_OPEN_EXPIRY (R81). -/
def execMinimumOpenExpiry (p : Fin 4) (s : State) : Host.Outcome State Fault Refusal :=
  .next (plantEvent s fun t => t.minOpenElapses p)

/-- A change of KEY: its level, and nothing else (R166). -/
def execKeyChange (level : Bool) (s : State) : Host.Outcome State Fault Refusal :=
  .next
    { s with
      lines := { s.lines with key := level },
      inputs := if s.phase = .running then { s.inputs with key := level } else s.inputs }

end Sys2Proof.Machine
end

