-- ==== Sys2Proof/Machine/Boundary.lean ====
section
/-!
DEFINITION. The heat-frame boundary: the Zone Controller's work (R4), the allocation (R28), and the Cure
Accountants' counting (R105) with the opening it may bring about (R86).
-/

namespace Sys2Proof.Machine

/-- The Cure Accountant of one press at a boundary; with AUTO_OPEN it may start the press opening (R86, R105). A
press in any other state does nothing. -/
def State.cureBoundary (s : State) (p : Fin 4) : State :=
  if (s.press p).state = .curing then
    match s.recipeOf p with
    | some r =>
      let t := s.countFrame p r
      if s.autoOpens p r then (t.startToOpen p).settled p else t
    | none => s
  else s

/-- The work of a frame boundary (R4, R26, R28, R105). DESIGN CHOICE: the allocation comes before the counting, and
the presses count in ascending order (log entry 35). -/
def State.boundary (s : State) : State :=
  (List.finRange 4).foldl State.cureBoundary s.zoneBoundary.allocate

/-- HEAT_FRAME_BOUNDARY (R4). -/
def execHeatFrameBoundary (s : State) : Host.Outcome State Fault Refusal :=
  .next (plantEvent s State.boundary)

end Sys2Proof.Machine
end

