-- ==== Sys2Proof/Machine/Counters.lean ====
section
/-!
DEFINITION. Production counter snapshots and the cell clock (chapter 9).
-/

namespace Sys2Proof.Machine

/-! ## Snapshots (R180, R182) -/

/-- The press is one that a SNAPSHOT_COUNTERS names; none names all four. -/
def snapshotNames (target : Option (Fin 4)) (p : Fin 4) : Bool :=
  match target with
  | some q => decide (p = q)
  | none => true

/-- The live counters of the presses named are copied into their snapshots (R180). -/
def State.copyCounters (s : State) (target : Option (Fin 4)) (cleared : Bool) : State :=
  { s with
    snapshots := s.snapshots.mapWith fun p x =>
      if snapshotNames target p then ⟨s.image.counters.get p, true, s.clock.stamp, cleared⟩ else x }

/-- The live counters of the presses named are cleared, one change (R180). -/
def State.clearCounters (s : State) (target : Option (Fin 4)) : State :=
  s.writeImage fun m =>
    { m with counters := m.counters.mapWith fun p c => if snapshotNames target p then Counters.zero else c }

/-- SNAPSHOT_COUNTERS taken (R180). -/
def State.snapshot (s : State) (target : Option (Fin 4)) (cleared : Bool) : State :=
  let t := s.copyCounters target cleared
  if cleared then t.clearCounters target else t

/-- The owner's act on SNAPSHOT_COUNTERS. -/
def ownSnapshotCounters (press clear : Byte) (s : State) : State :=
  match snapshotTarget press, yesNo clear with
  | some target, some cleared => (s.snapshot target cleared).answer .ok []
  | some _, none => s.answer .badValue []
  | none, _ => s.answer .badValue []

/-- SNAPSHOT_COUNTERS (R180). -/
def execSnapshotCounters (tag press clear : Byte) (s : State) : Host.Outcome State Fault Refusal :=
  .next (s.serve 0x35 tag [press, clear] (ownSnapshotCounters press clear))

/-- The owner's act on READ_COUNTERS. -/
def ownReadCounters (press : Byte) (s : State) : State :=
  match pressNo press with
  | none => s.answer .badValue []
  | some p => s.answer .ok (s.snapshots.get p).bytes

/-- READ_COUNTERS (R182). -/
def execReadCounters (tag press : Byte) (s : State) : Host.Outcome State Fault Refusal :=
  .next (s.serve 0x36 tag [press] (ownReadCounters press))

/-! ## The clock (R184 to R186) -/

/-- The owner's act on SET_CLOCK. -/
def ownSetClock (seconds : Word) (s : State) : State :=
  { s with clock := ⟨seconds.toNat, true, 0⟩ }.answer .ok []

/-- SET_CLOCK (R185). -/
def execSetClock (tag : Byte) (seconds : Word) (s : State) : Host.Outcome State Fault Refusal :=
  .next (s.serve 0x04 tag (wordBytes seconds) (ownSetClock seconds))

/-- The owner's act on READ_CLOCK. -/
def ownReadClock (s : State) : State := s.answer .ok (be32 s.clock.value ++ beBool s.clock.set)

/-- READ_CLOCK (R186). -/
def execReadClock (tag : Byte) (s : State) : Host.Outcome State Fault Refusal :=
  .next (s.serve 0x05 tag [] ownReadClock)

/-- The clock counts from the start of a power-on reset until the part stops (R184). -/
def Phase.clockRuns : Phase → Bool
  | .running => true
  | .recalling => true
  | .waiting => true
  | .held => true
  | .powerFall _ _ => true
  | .stopped => false
  | .unpowered => false

/-- One second passes on the clock (R184). -/
def Clock.tick (c : Clock) : Clock := { c with value := (c.value + 1) % 4294967296, ms := 0 }

/-- CLOCK_TICK (R184). -/
def execClockTick (s : State) : Host.Outcome State Fault Refusal :=
  .next (if s.phase.clockRuns then { s with clock := s.clock.tick } else s)

end Sys2Proof.Machine
end

