-- ==== Sys2Proof/Machine/History.lean ====
section
/-!
DEFINITION. The requests on part records and the history (chapter 6).
-/

namespace Sys2Proof.Machine

/-- The uncollected records at `count` indices from `start`, those that there are (R134). -/
def Ring.records (r : Ring) (start count : Nat) : List Record :=
  (List.range count).filterMap fun k => r.record (start + k)

/-- The owner's act on READ_HISTORY. -/
def ownReadHistory (start : Half) (count : Byte) (s : State) : State :=
  if count.toNat < 1 ∨ 4 < count.toNat ∨ 1023 < start.toNat then s.answer .badValue []
  else
    let rs := s.image.ring.records start.toNat count.toNat
    s.answer .ok (be16 s.image.ring.count ++ be8 rs.length ++ rs.flatMap Record.bytes)

/-- READ_HISTORY (R134). -/
def execReadHistory (tag : Byte) (start : Half) (count : Byte) (s : State) :
    Host.Outcome State Fault Refusal :=
  .next (s.serve 0x30 tag (halfBytes start ++ [count]) (ownReadHistory start count))

/-- COLLECT taken (R135). -/
def State.collectRecords (s : State) (n : Nat) : State :=
  (s.writeImage fun m => { m with ring := m.ring.collect n }).historyTest

/-- The owner's act on COLLECT. -/
def ownCollect (n : Half) (s : State) : State :=
  if n.toNat = 0 ∨ s.image.ring.count < n.toNat then s.answer .badValue []
  else (s.collectRecords n.toNat).answer .ok []

/-- COLLECT (R135). -/
def execCollect (tag : Byte) (n : Half) (s : State) : Host.Outcome State Fault Refusal :=
  .next (s.serve 0x31 tag (halfBytes n) (ownCollect n))

/-- The result of an annotation: 1 PASS, 2 FAIL (R205). -/
def annotationResult (b : Byte) : Option Bool :=
  if b.toNat = 1 then some true else if b.toNat = 2 then some false else none

/-- The record at an index carries an annotation. -/
def Ring.annotated (r : Ring) (k : Nat) : Bool :=
  match r.record k with
  | some q => q.annotation.isSome
  | none => false

/-- ANNOTATE taken (R136). -/
def State.annotateRecord (s : State) (k : Nat) (pass : Bool) (inspector : Byte) : State :=
  s.writeImage fun m =>
    { m with ring := m.ring.modRecord k fun q => { q with annotation := some ⟨pass, inspector⟩ } }

/-- The owner's act on ANNOTATE, its checks in order (R136). -/
def ownAnnotate (serial : Word) (result inspector : Byte) (s : State) : State :=
  match annotationResult result with
  | none => s.answer .badValue []
  | some pass =>
    if (s.image.openRecord serial.toNat).isSome then s.answer .wrongState []
    else
      match s.image.ring.indexOf serial.toNat with
      | none => s.answer .notFound []
      | some k =>
        if s.image.ring.annotated k then s.answer .alreadySet []
        else (s.annotateRecord k pass inspector).answer .ok []

/-- ANNOTATE (R136). -/
def execAnnotate (tag : Byte) (serial : Word) (result inspector : Byte) (s : State) :
    Host.Outcome State Fault Refusal :=
  .next (s.serve 0x32 tag (wordBytes serial ++ [result, inspector]) (ownAnnotate serial result inspector))

/-- The owner's act on READ_OPEN. -/
def ownReadOpen (serial : Word) (s : State) : State :=
  match s.image.openRecord serial.toNat with
  | none => s.answer .notFound []
  | some o =>
    s.answer .ok
      (o.record.bytes ++ beBool o.aborted ++ beBool o.expired ++ be8 (s.placeOf serial.toNat))

/-- READ_OPEN (R137). -/
def execReadOpen (tag : Byte) (serial : Word) (s : State) : Host.Outcome State Fault Refusal :=
  .next (s.serve 0x33 tag (wordBytes serial) (ownReadOpen serial))

end Sys2Proof.Machine
end

