-- ==== Sys2Proof/Machine/Retained.lean ====
section
/-!
DEFINITION. Retained memory and start-up (chapter 7): stores, power-fall handling, the power-on reset and its
recall, the warm reset, and the loss of supply, each with the reset values of every block.
-/

namespace Sys2Proof.Machine

/-! ## Stores (R147 to R150) -/

/-- A store completes: the copy holds what the store began with (R148, R145). -/
def State.finishStore (s : State) (f : InFlight) : State :=
  (s.modRetained fun r =>
    { r with copy := .good f.image f.noted, storedGeneration := f.noted, store := none }).raise .cell
    .storeDone

/-- The owner's act on STORE. -/
def ownStore (s : State) : State :=
  (if s.retained.store.isSome then s.modRetained fun r => { r with storeAgain := true }
    else s.startStore).answer .ok []

/-- STORE (R149). -/
def execStore (tag : Byte) (s : State) : Host.Outcome State Fault Refusal :=
  .next (s.serve 0x34 tag [] ownStore)

/-- The store-again flag, if set, is cleared and starts a new store (R148). -/
def State.storeOnceMore (s : State) : State :=
  if s.retained.storeAgain then (s.modRetained fun r => { r with storeAgain := false }).startStore else s

/-- The periodic store timer expires (R150). -/
def State.periodicExpires (s : State) : State :=
  if s.retained.periodic.isSome then
    let t := s.startPeriodic
    if s.retained.dirty && s.retained.store.isNone then t.startStore else t
  else s

/-- PERIODIC_STORE_EXPIRY (R150). -/
def execPeriodicStoreExpiry (s : State) : Host.Outcome State Fault Refusal :=
  .next (plantEvent s State.periodicExpires)

/-! ## Power-on (R153 to R156 and the reset tables) -/

/-- The supply is lost: a store that was writing leaves the copy bad (R145, R152). -/
def Retained.withoutSupply (r : Retained) : Retained :=
  { r with copy := if r.store.isSome then .bad else r.copy }

/-- Every block at its power-on values (R25, R42, R69, R99, R116, R141, R158, R183, R184, R203), with no
image recalled yet. The link runs at `rate`. -/
def State.powerOnValues (s : State) (phase : Phase) (rate : Nat) : State :=
  { s with
    phase := phase,
    inputs := s.lines,
    zones := Tab.fill Zone.reset,
    heat := Tab.fill PressHeat.reset,
    alloc := Alloc.reset,
    station := Station.reset 0,
    presses := Tab.fill Press.reset,
    image := Image.default,
    historyRaised := false,
    snapshots := Tab.fill Snapshot.reset,
    retained :=
      { s.retained with generation := 0, storedGeneration := 0, store := none, storeAgain := false,
                        periodic := none, resetKind := .powerOn },
    clock := ⟨0, false, 0⟩,
    link := Link.reset rate }

/-- A rate field read before the check value is tested: one of the four rates, or 115200 (R153). -/
def readableRate (n : Nat) : Nat := if n ∈ Config.linkRates then n else Config.defaultLinkRate

/-- The rate field of the stored image as it stands, at which the link runs until the recall completes (R153); a bad
copy's field is a free value (log entry 7). -/
def State.recallRate (s : State) : Nat :=
  match s.retained.copy with
  | .good m _ => readableRate m.settings.linkRate
  | .bad => readableRate (Config.badCopyLinkRate s.freeReads)

/-- The rate field of a bad copy, when it is read, is a free value of its own (log entry 7). -/
def State.countFreeRead (s : State) : State :=
  match s.retained.copy with
  | .good _ _ => s
  | .bad => { s with freeReads := s.freeReads + 1 }

/-- The recall begins (R153): the Link Port goes on as the reset left it, at the rate of the stored image. -/
def State.beginRecall (s : State) : State :=
  { s.countFreeRead with phase := .recalling, link := { s.link with rate := s.recallRate } }

/-- A power-on reset: the power-on values, and the recall once PFAIL is low (R153). Every request is answered STARTING
from here on (R203). DEDUCED: the Link Port runs at the rate of the stored image from the start of the reset, also
while the start-up waits (log entry 33). -/
def State.powerOn (s : State) : State :=
  let t := s.powerOnValues .waiting s.recallRate
  if t.pfail then t else t.beginRecall

/-- POWER_ON_RESET with this level of PFAIL. While power-fall handling runs, a PFAIL that falls makes a start-up due,
which begins once the part has stopped (R152). In any phase in which the part had its supply, power applied
means that the supply was lost before (log entry 14). -/
def State.powerOnReset (s : State) (pfail : Bool) : State :=
  let t := { s with pfail := pfail }
  match s.phase with
  | .powerFall final _ =>
    if pfail then { t with retained := t.retained.withoutSupply }.powerOn
    else { t with phase := .powerFall final true }
  | .waiting => if pfail then t.powerOn else t.beginRecall
  | .stopped => t.powerOn
  | .unpowered => t.powerOn
  | .running => { t with retained := t.retained.withoutSupply }.powerOn
  | .recalling => { t with retained := t.retained.withoutSupply }.powerOn
  | .held => { t with retained := t.retained.withoutSupply }.powerOn

/-- POWER_ON_RESET (R153). -/
def execPowerOnReset (pfail : Bool) (s : State) : Host.Outcome State Fault Refusal :=
  .next (s.powerOnReset pfail)

/-- A press derives its state from its limit inputs as a reset completes (R99). -/
def State.derivePress (s : State) (p : Fin 4) : State :=
  if (s.inputs.presses.get p).openLimit && (s.inputs.presses.get p).ejectHome then
    s.modPress p fun _ => Press.reset
  else
    (s.modPress p fun _ => { Press.reset with state := .fault, cause := some .reset }).raise (.press p)
      .pressFault

/-- What every reset does as it completes: the debounced levels are the lines' (R207), the press states are
derived (R99), HISTORY_HIGH is tested from ARMED (R133), the periodic store timer starts (R150), and the link
runs at the stored rate (R188). -/
def State.completeReset (s : State) : State :=
  let t := (List.finRange 4).foldl State.derivePress { s with inputs := s.lines, historyRaised := false }
  (t.historyTest.startPeriodic.modLink fun l => { l with rate := t.image.settings.linkRate })

/-- The image, the generations and the recall result as the recall finds them (R154, R155). -/
def State.recalled (s : State) : State :=
  match s.retained.copy with
  | .good m g =>
    { s with image := m,
             retained := { s.retained with generation := g, storedGeneration := g,
                                           recallResult := .recalled } }
  | .bad =>
    { s with image := Image.default,
             retained := { s.retained with generation := 1, storedGeneration := 0,
                                           recallResult := .defaulted } }

/-- The Weigh Station starts from the calibration zero as it stands (R66, R69). -/
def State.restartStation (s : State) : State :=
  s.modStation fun _ => Station.reset s.image.settings.calibrationZero

/-- MEMORY_DEFAULTED after a bad copy, and STARTED (R155, R156). -/
def State.raiseStarted (s : State) : State :=
  match s.retained.recallResult with
  | .defaulted => (s.raise .cell .memoryDefaulted).raise .cell .started
  | .recalled => s.raise .cell .started

/-- The recall completes (R156). -/
def State.completeRecall (s : State) : State :=
  { (s.recalled.closeAll .scrapPower).restartStation.completeReset with phase := .running }.raiseStarted

/-- RECALL_COMPLETE (R156). -/
def execRecallComplete (s : State) : Host.Outcome State Fault Refusal :=
  .next (if s.phase = .recalling then s.completeRecall.pump else s)

/-! ## Cutting parts short (R116, R117, R127) -/

/-- A press in CURING fixes its verdict, and one in EJECTING writes its demould summary from the stroke in
progress. -/
def State.cutShort (s : State) (p : Fin 4) : State :=
  if (s.press p).state = .curing then s.fixVerdict p else s.cutStroke p

/-- The same for the four presses. -/
def State.cutAllShort (s : State) : State := (List.finRange 4).foldl State.cutShort s

/-! ## Warm reset (R138, R157, R203 and the reset tables) -/

/-- A zone after a warm reset: PV, reading flag, latest reading and starved-slot total are kept (R25, R42). -/
def Zone.warm (z : Zone) : Zone :=
  { Zone.reset with pv := z.pv, valid := z.valid, latest := z.latest, starved := z.starved }

/-- A frame in transmission whose request, if it had one, is no longer in hand (R203). -/
def Transmission.orphaned (x : Transmission) : Transmission :=
  { x with what :=
      match x.what with
      | .reply => .orphan
      | .orphan => .orphan
      | .notice => .notice }

/-- The Link Port at the moment a warm reset begins (R203). -/
def Link.warm (l : Link) (rate : Nat) : Link :=
  { Link.reset rate with transmission := l.transmission.map Transmission.orphaned }

/-- Every block at its warm values (R25, R42, R69, R99, R116, R141, R158, R183, R184, R203). -/
def State.warmValues (s : State) : State :=
  { s with
    phase := .held,
    inputs := s.lines,
    zones := s.zones.mapWith fun _ z => z.warm,
    heat := Tab.fill PressHeat.reset,
    alloc := Alloc.reset,
    station := Station.reset s.image.settings.calibrationZero,
    presses := Tab.fill Press.reset,
    historyRaised := false,
    retained := { s.retained with resetKind := .warm },
    link := s.link.warm s.image.settings.linkRate }

/-- A warm reset begins: verdicts and demould summaries are written, every open record is closed SCRAP_RESET
(R138), and the blocks take their warm values. -/
def State.beginWarm (s : State) : State := (s.cutAllShort.closeAll .scrapReset).warmValues

/-- A warm reset completes. -/
def State.completeWarm (s : State) : State := { s.completeReset with phase := .running }

/-- RESET_LINE_LOW (R207): ignored during the recall and during and after power-fall handling (R151, R153). DESIGN
CHOICE: ignored too while a start-up waits with PFAIL high, and a pulse that begins there starts no warm reset later
(log entry 39). -/
def execResetLineLow (s : State) : Host.Outcome State Fault Refusal :=
  .next (if s.phase = .running then s.beginWarm else s)

/-- RESET_LINE_HIGH (R207). -/
def execResetLineHigh (s : State) : Host.Outcome State Fault Refusal :=
  .next (if s.phase = .held then s.completeWarm.pump else s)

/-! ## Power fall (R151, R152) -/

/-- The Link Port as power-fall handling starts: the request in hand gets no reply, and nothing waits (R151). DESIGN
CHOICE: the receiver, which ignores every byte from now on, stands at HUNTING (log entry 37). -/
def Link.powerFall (l : Link) : Link :=
  { l with receiver := .hunting, inHand := none, reply := none, noticeWaiting := false,
           transmission := l.transmission.map Transmission.orphaned }

/-- Every heater and valve output is turned off (R39, R100). -/
def State.outputsOff (s : State) : State :=
  { s with
    zones := s.zones.mapWith fun _ z => { z with out := false },
    presses := s.presses.mapWith fun _ x => { x with valves := Valves.off } }

/-- The part stops, and the start-up that a fall of PFAIL has made due begins (R152). DEDUCED: when PFAIL has risen
again since, that start-up waits for its next fall (R153, log entry 36). -/
def State.stop (s : State) (fallen : Bool) : State :=
  let t := { s with phase := .stopped }
  if fallen then t.powerOn else t

/-- Power-fall handling with no store in flight: one final store of a dirty image, or the stop (R152). -/
def State.powerFallOn (s : State) (final fallen : Bool) : State :=
  if s.retained.dirty && !final then { s with phase := .powerFall true fallen }.startStore else s.stop fallen

/-- Power-fall handling starts (R151), and goes on to the stores (R152). -/
def State.beginPowerFall (s : State) : State :=
  let t := { s.outputsOff.cutAllShort with phase := .powerFall false false, link := s.link.powerFall }
  let u := t.modRetained fun r => { r with periodic := none, storeAgain := false }
  if u.retained.store.isSome then u else u.powerFallOn false false

/-- A recall abandoned: the working image is discarded, and the part waits (R153). DESIGN CHOICE: the Link Port stops as
in power-fall handling, so the request in hand and a STARTING reply that waits are dropped, and a frame in transmission
is sent to its end (log entry 38). -/
def State.abandonRecall (s : State) : State :=
  { s with phase := .stopped, image := Image.default, link := s.link.powerFall }

/-- PFAIL rises (R151, R153, R207). In power-fall handling a second rise has no effect (R151); only the input's own
level is high again (log entry 36). -/
def State.pfailRises (s : State) : State :=
  let t := { s with pfail := true }
  match s.phase with
  | .running => t.beginPowerFall
  | .held => t.beginPowerFall
  | .recalling => t.abandonRecall
  | .waiting => t
  | .powerFall _ _ => t
  | .stopped => t
  | .unpowered => t

/-- PFAIL_RISE (R151). -/
def execPfailRise (s : State) : Host.Outcome State Fault Refusal := .next s.pfailRises

/-- A store completes: in power-fall handling as R152 says, otherwise as R148 says. -/
def State.storeCompletes (s : State) (f : InFlight) : State :=
  let t := s.finishStore f
  match s.phase with
  | .powerFall final fallen => t.powerFallOn final fallen
  | .running => t.storeOnceMore.pump
  | .held => t.storeOnceMore.pump
  | .recalling => t.storeOnceMore
  | .waiting => t.storeOnceMore
  | .stopped => t.storeOnceMore
  | .unpowered => t.storeOnceMore

/-- STORE_COMPLETE (R148, R152); without a store in flight there is nothing to complete. -/
def execStoreComplete (s : State) : Host.Outcome State Fault Refusal :=
  .next
    (match s.retained.store with
    | some f => s.storeCompletes f
    | none => s)

/-- SUPPLY_LOST (R145, R152): the working image and everything volatile is gone; only the copy is left, bad if a
store was writing it. The model shows the power-on values until power is applied (log entry 14). -/
def execSupplyLost (s : State) : Host.Outcome State Fault Refusal :=
  .next ({ s with retained := s.retained.withoutSupply }.powerOnValues .unpowered Config.defaultLinkRate)

end Sys2Proof.Machine
end

