-- ==== Sys2Proof/Machine/LinkPort.lean ====
section
/-!
DEFINITION. The Link Port's own messages (R197, R199 to R202) and the events of the line (R189 to R195).
-/

namespace Sys2Proof.Machine

/-! ## Cell messages -/

/-- The four figures of IDENTIFY (R200). -/
def State.identity (s : State) : List Byte :=
  be16 Config.vendorCode ++ be16 Config.partCode ++ be8 Config.siliconRevision ++
    be8 s.image.settings.cellNumber

/-- The owner's act on IDENTIFY. -/
def ownIdentify (s : State) : State := s.answer .ok s.identity

/-- IDENTIFY (R200). -/
def execIdentify (tag : Byte) (s : State) : Host.Outcome State Fault Refusal :=
  .next (s.serve 0x01 tag [] ownIdentify)

/-- The owner's act on CELL_STATUS. -/
def ownCellStatus (s : State) : State := s.answer .ok s.statusReport

/-- CELL_STATUS (R201). -/
def execCellStatus (tag : Byte) (s : State) : Host.Outcome State Fault Refusal :=
  .next (s.serve 0x02 tag [] ownCellStatus)

/-- The request in hand is a RESTART taken: a warm reset follows its reply (R202). -/
def Link.restarts (l : Link) : Link :=
  { l with inHand := l.inHand.map fun h => { h with stage := .restarting } }

/-- The owner's act on RESTART. -/
def ownRestart (s : State) : State := (s.answer .ok []).modLink Link.restarts

/-- RESTART (R202). -/
def execRestart (tag : Byte) (s : State) : Host.Outcome State Fault Refusal :=
  .next (s.serve 0x03 tag [] ownRestart)

/-- READ_EVENTS taken: the pending sets are emptied, the flag cleared, and a waiting notice withdrawn (R199). -/
def Link.readEvents (l : Link) : Link :=
  { l with pending := Tab.fill [], notice := false, noticeWaiting := false }

/-- The owner's act on READ_EVENTS. -/
def ownReadEvents (s : State) : State := (s.modLink Link.readEvents).answer .ok s.link.pendingBytes

/-- READ_EVENTS (R199). -/
def execReadEvents (tag : Byte) (s : State) : Host.Outcome State Fault Refusal :=
  .next (s.serve 0x06 tag [] ownReadEvents)

/-- Some listed kind is pending on some source (R198). -/
def Link.anyPending (l : Link) (ks : List EventKind) : Bool :=
  l.pending.toList.any fun set => set.any fun k => decide (k ∈ ks)

/-- MASK_EVENTS ENABLE: the kinds join the mask, and a pending one among them is offered to the notice rule
(R197, R198). -/
def Link.enable (l : Link) (ks : List EventKind) : Link :=
  let l' := { l with mask := addKinds ks l.mask }
  if l.anyPending ks then l'.offerNotice else l'

/-- MASK_EVENTS DISABLE (R197). -/
def Link.disable (l : Link) (ks : List EventKind) : Link := { l with mask := removeKinds ks l.mask }

/-- The modes of MASK_EVENTS: 1 ENABLE (`true`), 2 DISABLE (R205). -/
def maskModeOf (b : Byte) : Option Bool :=
  if b.toNat = 1 then some true else if b.toNat = 2 then some false else none

/-- A MASK_EVENTS mode acts on the Link Port with the kinds listed. -/
def Link.masked (l : Link) (enable : Bool) (ks : List EventKind) : Link :=
  if enable then l.enable ks else l.disable ks

/-- The owner's act on MASK_EVENTS; the reply shows the mask as it stands after it (R197). -/
def ownMaskEvents (mode : Byte) (kinds : List Byte) (s : State) : State :=
  match maskModeOf mode, eventKindsOf kinds with
  | some enable, some ks =>
    (s.modLink fun l => l.masked enable ks).answer .ok (s.link.masked enable ks).maskBytes
  | some _, none => s.answer .badValue []
  | none, _ => s.answer .badValue []

/-- MASK_EVENTS (R197). -/
def execMaskEvents (tag mode : Byte) (kinds : List Byte) (s : State) : Host.Outcome State Fault Refusal :=
  .next (s.serve 0x07 tag (mode :: kinds) (ownMaskEvents mode kinds))

/-! ## The receiver (R189 to R193) -/

/-- GOOD_FRAME (R192): the bytes of the frame arrive. -/
def execGoodFrame (kind tag : Byte) (body : List Byte) (s : State) : Host.Outcome State Fault Refusal :=
  .next (lineEvent s fun t => t.hear (frameBytes kind tag body))

/-- BAD_CRC_FRAME (R190). -/
def execBadCrcFrame (kind tag : Byte) (body : List Byte) (crc : Half) (s : State) :
    Host.Outcome State Fault Refusal :=
  .next (lineEvent s fun t => t.hear (frameWithCrc kind tag body crc))

/-- OVER_LENGTH_FRAME (R191). -/
def execOverLengthFrame (len kind tag : Byte) (rest : List Byte) (s : State) :
    Host.Outcome State Fault Refusal :=
  .next (lineEvent s fun t => t.hear (startByte :: len :: kind :: tag :: rest))

/-- INTERBYTE_GAP_TIMEOUT (R189, R191). -/
def execInterbyteGapTimeout (bytes : List Byte) (s : State) : Host.Outcome State Fault Refusal :=
  .next (lineEvent s fun t => (t.hear bytes).gap)

/-- FRAMING_ERROR (R189). -/
def execFramingError (bytes : List Byte) (s : State) : Host.Outcome State Fault Refusal :=
  .next (lineEvent s fun t => (t.hear bytes).abandonFrame)

/-! ## The transmitter (R195, R202) -/

/-- The last byte of the frame in transmission has left: the transmitter is free, and a reply that has been sent
releases the request in hand. -/
def Link.sent (l : Link) : Link :=
  match l.transmission with
  | none => l
  | some x =>
    match x.what with
    | .reply => { l with transmission := none, inHand := none }
    | .orphan => { l with transmission := none }
    | .notice => { l with transmission := none }

/-- The frame that is being sent is the reply to a RESTART. -/
def Link.sendsRestartReply (l : Link) : Bool :=
  match l.transmission, l.inHand with
  | some x, some h => decide (x.what = .reply) && decide (h.stage = .restarting)
  | some _, none => false
  | none, _ => false

/-- TRANSMIT_COMPLETE (R195); after the reply to a RESTART a warm reset begins, and completes at once (R202). -/
def execTransmitComplete (s : State) : Host.Outcome State Fault Refusal :=
  let t := s.modLink Link.sent
  .next
    (if s.link.sendsRestartReply && decide (s.phase = .running) then t.beginWarm.completeWarm.pump
      else t.pump)

end Sys2Proof.Machine
end

