-- ==== Sys2Proof/Machine/Recipes.lean ====
section
/-!
DEFINITION. The requests on recipes, settings and tuning (chapter 8).
-/

namespace Sys2Proof.Machine

/-! ## Settings (R170 to R174) -/

/-- The zone whose tuning an identifier reads: 32 to 55 (R173). -/
def tuningZone (ident : Nat) : Option (Fin 24) :=
  if h : 32 ≤ ident ∧ ident ≤ 55 then some ⟨ident - 32, by omega⟩ else none

/-- The value GET_SETTING reads (R173). -/
def Image.settingValue (m : Image) (ident : Nat) : Option Int :=
  match m.settings.value ident with
  | some v => some v
  | none =>
    match tuningZone ident with
    | some z => some ((m.tuning.get z).kp * 256 + (m.tuning.get z).ki)
    | none => none

/-- The owner's act on GET_SETTING. -/
def ownGetSetting (ident : Byte) (s : State) : State :=
  match s.image.settingValue ident.toNat with
  | some v => s.answer .ok (sbe32 v)
  | none => s.answer .badValue []

/-- GET_SETTING (R173). -/
def execGetSetting (tag ident : Byte) (s : State) : Host.Outcome State Fault Refusal :=
  .next (s.serve 0x10 tag [ident] (ownGetSetting ident))

/-- The SET_SETTING would turn the recipe lock from on to off while the lock is in force (R166, R170). -/
def State.locksOut (s : State) (ident : Nat) (v : Int) : Bool :=
  decide (ident = 4) && decide (settingStored ident v = 0) && s.lockInForce

/-- What a setting does at the moment it is written (R172). -/
def State.settingActs (s : State) (ident : Nat) : State :=
  if ident = 14 then s.startPeriodic else if ident = 15 then s.historyTest else s

/-- A setting is written (R170). -/
def State.writeSetting (s : State) (ident : Nat) (v : Int) : State :=
  (s.writeImage fun m => { m with settings := m.settings.put ident (settingStored ident v) }).settingActs
    ident

/-- The owner's act on SET_SETTING. -/
def ownSetSetting (ident : Byte) (value : Word) (s : State) : State :=
  match s.image.settings.value ident.toNat with
  | none => s.answer .badValue []
  | some _ =>
    if s.locksOut ident.toNat value.toInt then s.answer .locked []
    else
      (s.writeSetting ident.toNat value.toInt).answer .ok
        (sbe32 (settingStored ident.toNat value.toInt))

/-- SET_SETTING (R170). -/
def execSetSetting (tag ident : Byte) (value : Word) (s : State) : Host.Outcome State Fault Refusal :=
  .next (s.serve 0x11 tag (ident :: wordBytes value) (ownSetSetting ident value))

/-- The owner's act on SET_TUNING. -/
def ownSetTuning (zone kp ki : Byte) (s : State) : State :=
  match zoneNo zone with
  | none => s.answer .badValue []
  | some z =>
    (s.writeImage fun m => { m with tuning := m.tuning.set z ⟨kp.toNat, ki.toNat⟩ }).answer .ok [kp, ki]

/-- SET_TUNING (R174). -/
def execSetTuning (tag zone kp ki : Byte) (s : State) : Host.Outcome State Fault Refusal :=
  .next (s.serve 0x12 tag [zone, kp, ki] (ownSetTuning zone kp ki))

/-! ## Recipes (R161 to R168) -/

/-- A recipe slot is in use (R162). -/
def State.slotInUse (s : State) (slot : Fin 16) : Bool :=
  (s.image.slots.get slot).recipe.isSome &&
    (List.finRange 4).any fun p => decide (s.image.assigned.get p = some slot) && s.pressInUse p

/-- The revision the next WRITE_RECIPE of a slot gives (R159). -/
def Slot.nextRevision (x : Slot) : Nat := (x.revision + 1) % 65536

/-- A slot written with a record (R159, R165). -/
def Slot.write (x : Slot) (r : RawRecipe) : Slot := ⟨x.nextRevision, some (r.stored x.nextRevision)⟩

/-- A recipe is written into a slot (R165). -/
def State.storeRecipe (s : State) (slot : Fin 16) (r : RawRecipe) : State :=
  s.writeImage fun m => { m with slots := m.slots.modify slot fun x => x.write r }

/-- The data of the reply: the new revision and the clamped field numbers (R165, R205). -/
def State.writeReply (s : State) (slot : Fin 16) (r : RawRecipe) : List Byte :=
  be16 (s.image.slots.get slot).nextRevision ++ be8 r.clampedNumbers.length ++
    r.clampedNumbers.map (BitVec.ofNat 8)

/-- The owner's act on WRITE_RECIPE, its checks in order (R161). -/
def ownWriteRecipe (slot : Byte) (r : RawRecipe) (s : State) : State :=
  match slotNo slot with
  | none => s.answer .badValue []
  | some k =>
    if s.lockInForce then s.answer .locked []
    else if s.slotInUse k then s.answer .inUse []
    else
      match r.badField with
      | some n => s.answer .badRecipe (be8 n)
      | none => (s.storeRecipe k r).answer .ok (s.writeReply k r)

/-- WRITE_RECIPE (R161). -/
def execWriteRecipe (tag slot : Byte) (r : RawRecipe) (s : State) : Host.Outcome State Fault Refusal :=
  .next (s.serve 0x13 tag (slot :: r.bytes) (ownWriteRecipe slot r))

/-- The owner's act on READ_RECIPE. -/
def ownReadRecipe (slot : Byte) (s : State) : State :=
  match slotNo slot with
  | none => s.answer .badValue []
  | some k =>
    match (s.image.slots.get k).recipe with
    | none => s.answer .notFound []
    | some r =>
      s.answer .ok
        (be16 r.revision ++ r.bytes ++ setByte fun p => decide (s.image.assigned.get p = some k))

/-- READ_RECIPE (R167). -/
def execReadRecipe (tag slot : Byte) (s : State) : Host.Outcome State Fault Refusal :=
  .next (s.serve 0x14 tag [slot] (ownReadRecipe slot))

/-- The owner's act on ASSIGN_RECIPE, its checks in order (R168). -/
def ownAssignRecipe (press slot : Byte) (s : State) : State :=
  match pressNo press, slotNo slot with
  | some p, some k =>
    if (s.image.slots.get k).recipe.isNone then s.answer .notFound []
    else if s.pressInUse p then s.answer .inUse []
    else (s.writeImage fun m => { m with assigned := m.assigned.set p (some k) }).answer .ok []
  | some _, none => s.answer .badValue []
  | none, _ => s.answer .badValue []

/-- ASSIGN_RECIPE (R168). -/
def execAssignRecipe (tag press slot : Byte) (s : State) : Host.Outcome State Fault Refusal :=
  .next (s.serve 0x15 tag [press, slot] (ownAssignRecipe press slot))

end Sys2Proof.Machine
end

