-- ==== Sys2Proof/Machine/Weighing.lean ====
section
/-!
DEFINITION. Charge weighing (chapter 3): the weight of a sample, the filter window, zeros, the order queue,
and the capture of a charge.
-/

namespace Sys2Proof.Machine

/-! ## Samples and the window (R43 to R45) -/

/-- The weight of a net count under a gain, before it is held at the capacity (R43). -/
def weightOf (net : Int) (gain : Nat) : Int := (net * gain + 32768) / 65536

/-- The window entry of a net count (R43). -/
def entryOf (net : Int) (gain capacity : Nat) : Entry :=
  let w := weightOf net gain
  if (capacity : Int) < w then ⟨net, capacity, true⟩
  else if w < -(capacity : Int) then ⟨net, -(capacity : Int), false⟩
  else ⟨net, w, false⟩

/-- A list with one entry added as the newest, and the oldest removed beyond `n` entries. -/
def pushLast {α : Type} (n : Nat) (xs : List α) (x : α) : List α :=
  (xs ++ [x]).drop (xs.length + 1 - n)

/-- The average of a window of 8, rounded down (R44). -/
def windowAverage (window : List Entry) : Int := (window.map Entry.weight).sum / 8

/-- An entry enters the filter window, and the window's average the held averages (R44). -/
def Station.enter (w : Station) (e : Entry) : Station :=
  let window := pushLast 8 w.window e
  { w with
    window := window,
    averages :=
      if window.length = 8 then pushLast 25 w.averages (windowAverage window) else w.averages }

/-- The largest and the smallest of some averages lie within the band. -/
def withinBand (averages : List Int) (band : Nat) : Bool :=
  averages.all fun a => averages.all fun b => decide (a - b ≤ band)

/-- The test for stability (R45). -/
def Station.stableNow (w : Station) (band : Nat) : Bool :=
  w.avg.isSome && decide (w.averages.length = 25) && withinBand w.averages band

/-- The window is emptied (R44). -/
def Station.emptyWindow (w : Station) : Station := { w with window := [], averages := [], stable := false }

/-- avg is defined, and its absolute value is no greater than a range. -/
def Station.avgWithin (w : Station) (range : Nat) : Bool :=
  match w.avg with
  | some a => decide (a.natAbs ≤ range)
  | none => false

/-! ## Zero (R47 to R51) -/

/-- A zero capture's effect on the station (R47). -/
def Station.zeroed (w : Station) : Station :=
  { w.emptyWindow with
    offset := clamp (-8388608) 8388607 (w.offset + (w.window.map Entry.net).sum / 8),
    chargesSinceZero := 0, postponements := 0, zeroDue := false, state := .empty }

/-- A zero capture (R47). -/
def State.zeroCapture (s : State) : State := (s.modStation Station.zeroed).raise .weigh .zeroTaken

/-- The scale is stable, by the test on the window as it now stands (R45). -/
def State.scaleStable (s : State) : Bool := s.station.stableNow s.image.settings.stabilityBand

/-- An automatic zero within a range (R48, R51). -/
def State.autoZero (s : State) (range : Nat) : State :=
  if s.scaleStable && s.station.avgWithin range then s.zeroCapture else s

/-- The checks of ZERO_SCALE in order (R49). -/
def State.checkZeroScale (s : State) : Option Status :=
  if s.station.state = .waiting ∨ s.station.state = .settling ∨ s.station.state = .removal then
    some .wrongState
  else if !s.scaleStable then some .notReady
  else if !s.station.avgWithin s.image.settings.zeroRange then some .badValue
  else none

/-- The owner's act on ZERO_SCALE. -/
def ownZeroScale (s : State) : State :=
  match s.checkZeroScale with
  | some st => s.answer st []
  | none => s.zeroCapture.answer .ok []

/-- ZERO_SCALE (R49). -/
def execZeroScale (tag : Byte) (s : State) : Host.Outcome State Fault Refusal :=
  .next (s.serve 0x22 tag [] ownZeroScale)

/-! ## The order queue (R52 to R54, R63) -/

/-- The owner's act on POST_ORDER. -/
def ownPostOrder (orderTag press : Byte) (s : State) : State :=
  match pressNo press with
  | none => s.answer .badValue []
  | some p =>
    if 8 ≤ s.station.queue.length then s.answer .full []
    else (s.modStation fun w => { w with queue := w.queue ++ [⟨orderTag, p⟩] }).answer .ok []

/-- POST_ORDER (R52). -/
def execPostOrder (tag orderTag press : Byte) (s : State) : Host.Outcome State Fault Refusal :=
  .next (s.serve 0x20 tag [orderTag, press] (ownPostOrder orderTag press))

/-- The order has this tag. -/
def Order.hasTag (tag : Byte) (o : Order) : Bool := decide (o.tag = tag)

/-- The current order is cleared, from WAITING or from SETTLING (R63). -/
def Station.cancelCurrent (w : Station) : Station :=
  { w with current := none, settle := none,
           state := if w.state = .settling then .removal else .empty }

/-- The current order, if there is one, has this tag. -/
def Station.currentHas (w : Station) (tag : Byte) : Bool :=
  match w.current with
  | some o => o.hasTag tag
  | none => false

/-- The owner's act on CANCEL_ORDER (R63). -/
def ownCancelOrder (orderTag : Byte) (s : State) : State :=
  if s.station.queue.any (Order.hasTag orderTag) then
    (s.modStation fun w => { w with queue := w.queue.eraseP (Order.hasTag orderTag) }).answer .ok []
  else if s.station.currentHas orderTag then (s.modStation Station.cancelCurrent).answer .ok []
  else if orderTag.toNat ∈ s.station.captured then s.answer .tooLate []
  else s.answer .notFound []

/-- CANCEL_ORDER (R63). -/
def execCancelOrder (tag orderTag : Byte) (s : State) : Host.Outcome State Fault Refusal :=
  .next (s.serve 0x21 tag [orderTag] (ownCancelOrder orderTag))

/-- The owner's act on READ_SCALE. -/
def ownReadScale (s : State) : State := s.answer .ok s.scaleReport

/-- READ_SCALE (R68). -/
def execReadScale (tag : Byte) (s : State) : Host.Outcome State Fault Refusal :=
  .next (s.serve 0x23 tag [] ownReadScale)

/-- An order may be taken now, but for the queue itself (R53). -/
def State.mayTake (s : State) : Bool :=
  (!s.station.zeroDue || decide (s.station.postponements < 4)) &&
    decide (s.image.recordCount < 1024) && s.image.nextSerial.isSome

/-- An order is taken: it leaves the queue and becomes the current order (R53). -/
def Station.take (w : Station) (o : Order) (eligible : Order → Bool) : Station :=
  { w with
    queue := w.queue.eraseP eligible, current := some o, state := .waiting,
    postponements := if w.zeroDue then w.postponements + 1 else w.postponements }

/-- The take check (R53): the oldest eligible order in the queue is taken. -/
def State.takeCheck (s : State) : State :=
  if s.station.state = .empty ∧ s.mayTake then
    match s.station.queue.find? s.eligible with
    | some o => s.modStation fun w => w.take o s.eligible
    | none => s
  else s

/-! ## Capture (R58 to R61, R124, R125) -/

/-- The deviation in per mille, rounded to the nearest and clamped (R58). -/
def deviationOf (w : Int) (nominal : Nat) : Int :=
  clamp (-1000) 1000 ((2000 * (w - nominal) + nominal) / (2 * nominal))

/-- The weight lies within tolerance of the nominal weight (R58). -/
def withinTolerance (w : Int) (nominal tolerance : Nat) : Bool :=
  decide ((w - nominal).natAbs * 1000 ≤ tolerance * nominal)

/-- The charge is accepted (R58). -/
def Station.accepts (w : Station) (weight : Int) (r : Recipe) : Bool :=
  withinTolerance weight r.nominal r.tolerance && !w.window.any Entry.isOver

/-- A record with its weigh fields (R120, R124). -/
def newRecord (serial : Nat) (o : Order) (slot : Fin 16) (r : Recipe) (weight : Int)
    (time : Option Nat) : Record :=
  { serial := serial, press := o.press, slot := slot, revision := r.revision, tag := o.tag,
    weight := weight, deviation := deviationOf weight r.nominal, weighTime := time, loadTime := none,
    cure := none, demould := none, disposition := none, cause := none, closingTime := none,
    annotation := none }

/-- The next-serial counter after a serial is taken; exhausted after the greatest (R123). -/
def serialAfter (serial : Nat) : Option Nat :=
  if serial < 4294967295 then some (serial + 1) else none

/-- An accepted charge: an open record and a ticket, made together (R59, R74, R124). -/
def State.acceptCharge (s : State) (q : Record) (potLife : Nat) : State :=
  ((s.writeImage fun m =>
      { m with openTable := m.openTable ++ [⟨q, false, false⟩], nextSerial := serialAfter q.serial }).modPress
    q.press fun x => { x with tickets := x.tickets ++ [⟨q.serial, q.tag, seconds potLife⟩] }).raise .weigh
    .chargeAccepted

/-- A rejected charge: a record closed at once (R60, R125). -/
def State.rejectCharge (s : State) (q : Record) (nominal : Nat) : State :=
  let d : Disposition := if q.weight < nominal then .rejectLight else .rejectHeavy
  (s.writeImage fun m =>
      { m.takeClosed (q.closed d none s.clock.stamp) d with nextSerial := serialAfter q.serial }).raise
    .weigh .chargeRejected

/-- A tag joins the captured-tag set (R61). -/
def addCaptured (tag : Byte) (set : List Nat) : List Nat :=
  (List.range 256).filter fun n => decide (n = tag.toNat) || decide (n ∈ set)

/-- The station at the end of a capture, but for the zero obligation (R61). -/
def Station.afterCapture (w : Station) (tag : Byte) : Station :=
  { w with settle := none, captured := addCaptured tag w.captured, current := none, state := .removal,
           chargesSinceZero := satAdd 255 w.chargesSinceZero 1 }

/-- The zero obligation's test at a capture (R50). -/
def State.zeroObligation (s : State) : State :=
  if !s.station.zeroDue && decide (s.image.settings.zeroInterval ≤ s.station.chargesSinceZero) then
    (s.modStation fun w => { w with zeroDue := true }).raise .weigh .zeroDue
  else s

/-- What a capture reads. A capture finds all of it, as R53 explains; without one of them there is none (log
entry 15). -/
def State.captureFigures (s : State) : Option (Order × Fin 16 × Recipe × Nat × Int) := do
  let o ← s.station.current
  let slot ← s.image.assigned.get o.press
  let r ← (s.image.slots.get slot).recipe
  let serial ← s.image.nextSerial
  let w ← s.station.avg
  some (o, slot, r, serial, w)

/-- The charge is weighed and judged (R58 to R60). -/
def State.judgeCharge (s : State) (q : Record) (r : Recipe) : State :=
  if s.station.accepts q.weight r then s.acceptCharge q r.potLife else s.rejectCharge q r.nominal

/-- A capture (R58 to R61), with the HISTORY_HIGH test that follows it (R133). -/
def State.capture (s : State) : State :=
  match s.captureFigures with
  | none => s
  | some (o, slot, r, serial, w) =>
    (((s.judgeCharge (newRecord serial o slot r w s.clock.stamp) r).modStation fun x =>
      x.afterCapture o.tag).zeroObligation).historyTest

/-! ## A good sample by station state (R48, R51, R53, R55, R56, R62, R65) -/

/-- avg is defined and below the load threshold. -/
def State.belowThreshold (s : State) : Bool :=
  match s.station.avg with
  | some a => decide (a < s.image.settings.loadThreshold)
  | none => false

/-- avg is defined and at least the load threshold. -/
def State.atThreshold (s : State) : Bool :=
  match s.station.avg with
  | some a => decide ((s.image.settings.loadThreshold : Int) ≤ a)
  | none => false

/-- What the station does on a good sample that has entered the window. -/
def State.onSample (s : State) : State :=
  match s.station.state with
  | .unzeroed => s.autoZero s.image.settings.zeroRange
  | .empty => (if s.station.zeroDue then s.autoZero s.image.settings.autoZeroBand else s).takeCheck
  | .waiting =>
    if s.atThreshold then
      s.modStation fun w =>
        { w with state := .settling, settle := some (seconds s.image.settings.settleTimeout) }
    else s
  | .settling =>
    if s.belowThreshold then s.modStation fun w => { w with state := .waiting, settle := none }
    else if s.scaleStable then s.capture
    else s
  | .removal =>
    if s.scaleStable && s.belowThreshold then s.modStation fun w => { w with state := .empty } else s
  | .fault => s

/-- A sample's entry joins the window, and the scale is tested for stability (R43 to R45). -/
def State.windowed (s : State) (count : Count) : State :=
  s.modStation fun w =>
    let x := w.enter (entryOf (count.toInt - w.offset) s.image.settings.gain s.image.settings.capacity)
    { x with stable := x.stableNow s.image.settings.stabilityBand }

/-- GOOD_SAMPLE (R43). -/
def execGoodSample (count : Count) (s : State) : Host.Outcome State Fault Refusal :=
  .next (plantEvent s fun t => (t.windowed count).onSample)

/-! ## Faulted samples and the settle timer (R46, R57, R64) -/

/-- The current order goes back to the head of the queue; the youngest order makes room in a full queue (R64). -/
def Station.returnOrder (w : Station) : Station :=
  match w.current with
  | none => w
  | some o =>
    if w.queue.length < 8 then { w with current := none, queue := o :: w.queue }
    else
      { w with current := none, queue := o :: w.queue.take 7,
               orderDrops := satAdd 65535 w.orderDrops 1 }

/-- The station after a faulted sample (R46). -/
def Station.faulted (w : Station) : Station :=
  { w.returnOrder.emptyWindow with settle := none, state := .fault }

/-- A faulted sample (R46). -/
def State.faultSample (s : State) : State :=
  let t := s.modStation Station.faulted
  if s.station.state = .fault then t else t.raise .weigh .scaleFault

/-- FAULTED_SAMPLE (R46, R64). -/
def execFaultedSample (s : State) : Host.Outcome State Fault Refusal :=
  .next (plantEvent s State.faultSample)

/-- The settle timer expires (R57). -/
def State.settleExpires (s : State) : State :=
  if s.station.settle.isSome then
    (s.modStation fun w => { w with settle := none }).raise .weigh .settleTimeout
  else s

/-- SETTLE_TIMEOUT (R57). -/
def execSettleTimeout (s : State) : Host.Outcome State Fault Refusal :=
  .next (plantEvent s State.settleExpires)

end Sys2Proof.Machine
end

