-- ==== Sys2Proof/Machine/Dispatch.lean ====
section
/-!
DEFINITION. The one dispatcher: each command of the table to its meaning.
-/

namespace Sys2Proof.Machine

/-- A command acts on everything but the queue. -/
def exec (i : Instr) (s : State) : Host.Outcome State Fault Refusal :=
  match i with
  | .identify tag => Sys2Proof.Machine.execIdentify tag s
  | .cellStatus tag => Sys2Proof.Machine.execCellStatus tag s
  | .restart tag => Sys2Proof.Machine.execRestart tag s
  | .setClock tag seconds => Sys2Proof.Machine.execSetClock tag seconds s
  | .readClock tag => Sys2Proof.Machine.execReadClock tag s
  | .readEvents tag => Sys2Proof.Machine.execReadEvents tag s
  | .maskEvents tag mode kinds => Sys2Proof.Machine.execMaskEvents tag mode kinds s
  | .getSetting tag ident => Sys2Proof.Machine.execGetSetting tag ident s
  | .setSetting tag ident value => Sys2Proof.Machine.execSetSetting tag ident value s
  | .setTuning tag zone kp ki => Sys2Proof.Machine.execSetTuning tag zone kp ki s
  | .writeRecipe tag slot recipe => Sys2Proof.Machine.execWriteRecipe tag slot recipe s
  | .readRecipe tag slot => Sys2Proof.Machine.execReadRecipe tag slot s
  | .assignRecipe tag press slot => Sys2Proof.Machine.execAssignRecipe tag press slot s
  | .setHeatMode tag press mode standby held => Sys2Proof.Machine.execSetHeatMode tag press mode standby held s
  | .readZones tag press => Sys2Proof.Machine.execReadZones tag press s
  | .clearZone tag zone => Sys2Proof.Machine.execClearZone tag zone s
  | .disableZone tag zone => Sys2Proof.Machine.execDisableZone tag zone s
  | .enableZone tag zone => Sys2Proof.Machine.execEnableZone tag zone s
  | .postOrder tag orderTag press => Sys2Proof.Machine.execPostOrder tag orderTag press s
  | .cancelOrder tag orderTag => Sys2Proof.Machine.execCancelOrder tag orderTag s
  | .zeroScale tag => Sys2Proof.Machine.execZeroScale tag s
  | .readScale tag => Sys2Proof.Machine.execReadScale tag s
  | .load tag press serial => Sys2Proof.Machine.execLoad tag press serial s
  | .close tag press => Sys2Proof.Machine.execClose tag press s
  | .openPress tag press => Sys2Proof.Machine.execOpen tag press s
  | .abort tag press => Sys2Proof.Machine.execAbort tag press s
  | .release tag press => Sys2Proof.Machine.execRelease tag press s
  | .clearFault tag press => Sys2Proof.Machine.execClearFault tag press s
  | .readPress tag press => Sys2Proof.Machine.execReadPress tag press s
  | .readHistory tag start count => Sys2Proof.Machine.execReadHistory tag start count s
  | .collect tag n => Sys2Proof.Machine.execCollect tag n s
  | .annotate tag serial result inspector => Sys2Proof.Machine.execAnnotate tag serial result inspector s
  | .readOpen tag serial => Sys2Proof.Machine.execReadOpen tag serial s
  | .store tag => Sys2Proof.Machine.execStore tag s
  | .snapshotCounters tag press clear => Sys2Proof.Machine.execSnapshotCounters tag press clear s
  | .readCounters tag press => Sys2Proof.Machine.execReadCounters tag press s
  | .goodFrame kind tag body => Sys2Proof.Machine.execGoodFrame kind tag body s
  | .badCrcFrame kind tag body crc => Sys2Proof.Machine.execBadCrcFrame kind tag body crc s
  | .overLengthFrame len kind tag rest => Sys2Proof.Machine.execOverLengthFrame len kind tag rest s
  | .interbyteGapTimeout bytes => Sys2Proof.Machine.execInterbyteGapTimeout bytes s
  | .framingError bytes => Sys2Proof.Machine.execFramingError bytes s
  | .transmitComplete => Sys2Proof.Machine.execTransmitComplete s
  | .thermocoupleReading zone reading => Sys2Proof.Machine.execThermocoupleReading zone reading s
  | .heatFrameBoundary => Sys2Proof.Machine.execHeatFrameBoundary s
  | .heaterSlot => Sys2Proof.Machine.execHeaterSlot s
  | .goodSample count => Sys2Proof.Machine.execGoodSample count s
  | .faultedSample => Sys2Proof.Machine.execFaultedSample s
  | .settleTimeout => Sys2Proof.Machine.execSettleTimeout s
  | .ticketPotLifeExpiry press serial => Sys2Proof.Machine.execTicketPotLifeExpiry press serial s
  | .boundPotLifeExpiry press => Sys2Proof.Machine.execBoundPotLifeExpiry press s
  | .curingConditionMet press levels guardRise => Sys2Proof.Machine.execCuringConditionMet press levels guardRise s
  | .pressureDip press fallen levels guardRise => Sys2Proof.Machine.execPressureDip press fallen levels guardRise s
  | .guardOkFall => Sys2Proof.Machine.execGuardOkFall s
  | .openLimitMet press levels guardRise => Sys2Proof.Machine.execOpenLimitMet press levels guardRise s
  | .ejectOutMet press levels guardRise => Sys2Proof.Machine.execEjectOutMet press levels guardRise s
  | .ejectHomeMet press levels guardRise => Sys2Proof.Machine.execEjectHomeMet press levels guardRise s
  | .openLimitDrift press levels guardRise => Sys2Proof.Machine.execOpenLimitDrift press levels guardRise s
  | .keyChange level => Sys2Proof.Machine.execKeyChange level s
  | .closeTimerExpiry press => Sys2Proof.Machine.execCloseTimerExpiry press s
  | .openTimerExpiry press => Sys2Proof.Machine.execOpenTimerExpiry press s
  | .strokeTimerExpiry press => Sys2Proof.Machine.execStrokeTimerExpiry press s
  | .minimumOpenExpiry press => Sys2Proof.Machine.execMinimumOpenExpiry press s
  | .storeComplete => Sys2Proof.Machine.execStoreComplete s
  | .periodicStoreExpiry => Sys2Proof.Machine.execPeriodicStoreExpiry s
  | .pfailRise => Sys2Proof.Machine.execPfailRise s
  | .powerOnReset pfail => Sys2Proof.Machine.execPowerOnReset pfail s
  | .recallComplete => Sys2Proof.Machine.execRecallComplete s
  | .resetLineLow => Sys2Proof.Machine.execResetLineLow s
  | .resetLineHigh => Sys2Proof.Machine.execResetLineHigh s
  | .clockTick => Sys2Proof.Machine.execClockTick s
  | .pressureDipEnd press levels guardRise => Sys2Proof.Machine.execPressureDipEnd press levels guardRise s
  | .supplyLost => Sys2Proof.Machine.execSupplyLost s

end Sys2Proof.Machine
end

