-- ==== Sys2Proof/Machine/Idle.lean ====
section
/-!
DEFINITION. What a step does when no command waits: one millisecond passes on the running timers (DESIGN
CHOICE, log entry 5). No timer expires by it: each expiry is a command of the table.
-/

namespace Sys2Proof.Machine

/-- A running timer one millisecond later; it stays at its last millisecond until its expiry comes. -/
def countDown (n : Nat) : Nat := if n ≤ 1 then n else n - 1

/-- A ticket one millisecond later (R75). -/
def Ticket.later (t : Ticket) : Ticket := { t with pot := countDown t.pot }

/-- A bound part one millisecond later (R76). -/
def Bound.later (b : Bound) : Bound := { b with pot := b.pot.map countDown }

/-- A press one millisecond later: pot lives and the four timers. -/
def Press.later (x : Press) : Press :=
  { x with
    tickets := x.tickets.map Ticket.later, bound := x.bound.map Bound.later,
    closeTimer := x.closeTimer.map countDown, openTimer := x.openTimer.map countDown,
    strokeTimer := x.strokeTimer.map countDown, minOpen := x.minOpen.map countDown }

/-- The clock one millisecond later, within its second (R184). -/
def Clock.later (c : Clock) : Clock := { c with ms := if c.ms < 999 then c.ms + 1 else c.ms }

/-- The part one millisecond later, while it works; in any other phase no timer runs. -/
def State.later (s : State) : State :=
  if s.phase = .running then
    { s with
      presses := s.presses.mapWith fun _ x => x.later,
      station := { s.station with settle := s.station.settle.map countDown },
      retained := { s.retained with periodic := s.retained.periodic.map countDown },
      clock := s.clock.later }
  else s

end Sys2Proof.Machine
end

