-- ==== Sys2Proof/Safety.lean ====
section
/-!
DEFINITION. The terms in which claims about the part are made: what a reply does to the Link Port, and the
invariants of each group of state. An invariant speaks of one state; that every step keeps it is claimed
elsewhere.
-/

namespace Sys2Proof.Machine

/-! ## Replies (R194, R195) -/

/-- The Link Port with a reply made ready: a free transmitter starts it at once, a busy one leaves it waiting
(R195). -/
def Link.withReply (l : Link) (f : Frame) : Link :=
  match l.transmission with
  | none => { l with transmission := some ⟨f, .reply, l.rate⟩, reply := none }
  | some _ => { l with reply := some f }

/-- The Link Port once the request in hand, of this kind, tag and body, has been answered with this status and
data (R194). -/
def Link.repliedTo (l : Link) (kind tag : Byte) (body : List Byte) (st : Status) (data : List Byte) : Link :=
  { l with inHand := some ⟨kind, tag, body, .answered⟩ }.withReply ⟨kind + 0x80, tag, st.code :: data⟩

/-- The state once the request in hand has been answered, and nothing else has been done. -/
def State.repliedTo (s : State) (kind tag : Byte) (body : List Byte) (st : Status) (data : List Byte) : State :=
  { s with link := s.link.repliedTo kind tag body st data }

/-- The reply that waits, or the one in transmission. -/
def Link.replyFrame (l : Link) : Option Frame :=
  match l.reply, l.transmission with
  | some f, _ => some f
  | none, some x => if x.what = .reply then some x.frame else none
  | none, none => none

/-- The reply a command has brought about for a request of this kind and tag, with this status and data. -/
def State.replied (t : State) (kind tag : Byte) (st : Status) (data : List Byte) : Prop :=
  t.link.replyFrame = some ⟨kind + 0x80, tag, st.code :: data⟩

/-! ## Heat (chapters 1 and 2) -/

/-- A reading within the range that is held (R2). -/
def readingInRange : Reading → Prop
  | .broken => True
  | .valid t => -500 ≤ t ∧ t ≤ 4500

/-- A zone's figures lie in their ranges, its fault cause is present in FAULT only, and a zone that is not
heated has its output off and D, r, I, g and carry 0 (R1, R14 to R18, R35, R36, R40). -/
def Zone.sound (z : Zone) : Prop :=
  (z.cause.isSome ↔ z.state = .fault) ∧
  (-500 ≤ z.pv ∧ z.pv ≤ 4500) ∧ (0 ≤ z.sp ∧ z.sp ≤ 4000) ∧ (0 ≤ z.integ ∧ z.integ ≤ 16000) ∧
  (0 ≤ z.demand ∧ z.demand ≤ 1000) ∧ (0 ≤ z.requested ∧ z.requested ≤ 20) ∧
  (0 ≤ z.granted ∧ z.granted ≤ 20) ∧ (-8 ≤ z.carry ∧ z.carry ≤ 8) ∧ z.starved ≤ 4294967295 ∧
  (∀ x, z.latest = some x → readingInRange x) ∧
  (z.heated = false →
    z.demand = 0 ∧ z.requested = 0 ∧ z.integ = 0 ∧ z.granted = 0 ∧ z.carry = 0 ∧ z.out = false)

/-- Every zone is sound, and every standby temperature is a setpoint (R6). -/
def State.heatSound (s : State) : Prop :=
  (∀ z, (s.zone z).sound) ∧ ∀ p, 0 ≤ (s.pressHeat p).standby ∧ (s.pressHeat p).standby ≤ 4000

/-- How many heater outputs are on. -/
def State.outputsOn (s : State) : Nat := ((List.finRange 24).filter fun z => (s.zone z).out).length

/-- The runs of two zones do not overlap (R38). -/
def Zone.apart (y z : Zone) : Prop := y.start + y.granted ≤ z.start ∨ z.start + z.granted ≤ y.start

/-- The running frame's grants are runs of at most 20 positions that lie within the capacity of the limit in
force and do not overlap (R38), at most that many outputs are on, and every output is off while the part does
not work (R39). Before the first allocation nothing is granted and every output is off. -/
def State.supplySound (s : State) : Prop :=
  (s.phase ≠ .running → ∀ z, (s.zone z).out = false) ∧
  match s.alloc.limit with
  | none => ∀ z, (s.zone z).granted = 0 ∧ (s.zone z).out = false
  | some limit =>
    s.outputsOn ≤ limit ∧
    (∀ z, 0 ≤ (s.zone z).granted ∧ (s.zone z).granted ≤ 20 ∧
      (0 < (s.zone z).granted → (s.zone z).start + (s.zone z).granted ≤ 20 * limit)) ∧
    ∀ y z, y ≠ z → 0 < (s.zone y).granted → 0 < (s.zone z).granted → (s.zone y).apart (s.zone z)

/-! ## Presses (chapter 4) -/

/-- The states in which a part is bound to the press (R70). -/
def PressState.holdsPart : PressState → Bool
  | .loaded => true
  | .closing => true
  | .curing => true
  | .opening => true
  | .ejecting => true
  | .unload => true
  | .idle => false
  | .fault => false

/-- A press is as R70 and R73 say: the fault cause in FAULT only, the bound part in the six states that have one,
a stroke in EJECTING only, each of the three cycle timers in its own state only, and the valves of its state. -/
def Press.sound (x : Press) (working : Bool) : Prop :=
  (x.cause.isSome ↔ x.state = .fault) ∧ (x.bound.isSome ↔ x.state.holdsPart = true) ∧
  (x.stroke.isSome ↔ x.state = .ejecting) ∧ (x.closeTimer.isSome ↔ x.state = .closing) ∧
  (x.openTimer.isSome ↔ x.state = .opening) ∧ (x.strokeTimer.isSome ↔ x.state = .ejecting) ∧
  x.valves = (if working then valvesFor x.state x.stroke else Valves.off)

/-- Every press is sound; a press that holds a part is in heat mode RUN (R70); no queue holds more than two
tickets (R74), and the press of the current order is in RUN and holds at most one (R53). -/
def State.pressesSound (s : State) : Prop :=
  (∀ p, (s.press p).sound (decide (s.phase = .running))) ∧
  (∀ p, (s.press p).state.holdsPart = true → (s.pressHeat p).mode = .run) ∧
  (∀ p, (s.press p).tickets.length ≤ 2) ∧
  ∀ o, s.station.current = some o →
    (s.pressHeat o.press).mode = .run ∧ (s.press o.press).tickets.length ≤ 1

/-! ## Weighing (chapter 3) -/

/-- The Weigh Station's lists and counts keep to their bounds, the current order exists in WAITING and SETTLING
only, the settle timer runs in SETTLING only, and the postponements are 0 while zero-due is clear. -/
def Station.sound (w : Station) : Prop :=
  w.window.length ≤ 8 ∧ w.averages.length ≤ 25 ∧ w.queue.length ≤ 8 ∧
  (w.current.isSome ↔ (w.state = .waiting ∨ w.state = .settling)) ∧
  (w.settle.isSome → w.state = .settling) ∧ w.postponements ≤ 4 ∧
  (w.zeroDue = false → w.postponements = 0) ∧ w.chargesSinceZero ≤ 255 ∧ w.orderDrops ≤ 65535 ∧
  (w.averages ≠ [] → w.window.length = 8) ∧ (w.stable = true → w.averages.length = 25)

/-! ## Recipes and settings (chapter 8) -/

/-- A recipe satisfies every range and structural condition of the recipe record, and its unused entries are zero
(R159, R160, R163, R164). -/
def Recipe.sound (r : Recipe) : Prop :=
  (r.name.length ≤ 12 ∧ ∀ b ∈ r.name, 32 ≤ b.toNat ∧ b.toNat ≤ 126) ∧
  (100 ≤ r.nominal ∧ r.nominal ≤ 30000) ∧ (1 ≤ r.tolerance ∧ r.tolerance ≤ 100) ∧
  (10 ≤ r.potLife ∧ r.potLife ≤ 7200) ∧ (1 ≤ r.segmentCount ∧ r.segmentCount ≤ 8) ∧
  r.restSegment < r.segmentCount ∧
  (∀ i : Fin 8,
    (r.segments.get i).target ≤ 4000 ∧ (r.segments.get i).rate ≤ 100 ∧ (r.segments.get i).hold ≤ 65535 ∧
      (r.segmentCount ≤ i.val → r.segments.get i = ⟨0, 0, 0, .time⟩)) ∧
  (∃ i : Fin 8, i.val < r.segmentCount ∧ (r.segments.get i).endKind = .atClose) ∧
  (∀ i, -200 ≤ r.offsets.get i ∧ r.offsets.get i ≤ 200) ∧ (1 ≤ r.readyBand ∧ r.readyBand ≤ 200) ∧
  (1 ≤ r.bandCount ∧ r.bandCount ≤ 8) ∧
  (∀ i : Fin 8,
    (r.bands.get i).lower ≤ 4000 ∧ (r.bands.get i).weight ≤ 64 ∧
      (r.bandCount ≤ i.val → r.bands.get i = ⟨0, 0⟩)) ∧
  (∀ i j : Fin 8, i < j → j.val < r.bandCount → (r.bands.get i).lower < (r.bands.get j).lower) ∧
  (1 ≤ r.cureTarget ∧ r.cureTarget ≤ 3600) ∧ r.minCure ≤ 3600 ∧ (1 ≤ r.maxCure ∧ r.maxCure ≤ 7200) ∧
  r.minCure ≤ r.maxCure ∧ r.cureTarget ≤ r.maxCure ∧ (16 ≤ r.overcure ∧ r.overcure ≤ 64) ∧
  (1 ≤ r.closeTimeout ∧ r.closeTimeout ≤ 120) ∧ (1 ≤ r.openTimeout ∧ r.openTimeout ≤ 120) ∧
  r.minOpen ≤ 600 ∧ r.demouldTries ≤ 3 ∧ (1 ≤ r.strokeTimeout ∧ r.strokeTimeout ≤ 30)

/-- Every setting lies in its range (R170, R171). -/
def Settings.sound (c : Settings) : Prop :=
  (1 ≤ c.demandLimit ∧ c.demandLimit ≤ 24) ∧ (50 ≤ c.overMargin ∧ c.overMargin ≤ 500) ∧
  (1 ≤ c.zeroInterval ∧ c.zeroInterval ≤ 100) ∧ c.zeroRange ≤ 2000 ∧ c.autoZeroBand ≤ 50 ∧
  (1 ≤ c.stabilityBand ∧ c.stabilityBand ≤ 50) ∧ (50 ≤ c.loadThreshold ∧ c.loadThreshold ≤ 5000) ∧
  (2 ≤ c.settleTimeout ∧ c.settleTimeout ≤ 60) ∧ (1000 ≤ c.capacity ∧ c.capacity ≤ 30000) ∧
  (1 ≤ c.gain ∧ c.gain ≤ 1048575) ∧ (-8388608 ≤ c.calibrationZero ∧ c.calibrationZero ≤ 8388607) ∧
  (c.storeInterval = 0 ∨ 10 ≤ c.storeInterval ∧ c.storeInterval ≤ 3600) ∧ c.historyWarning ≤ 1024 ∧
  c.linkRate ∈ Config.linkRates ∧ c.cellNumber ≤ 255

/-- The Recipe and Settings Store's part of an image: settings and gains in their ranges, and in each slot no
recipe or a sound one that bears the slot's revision (R159, R175). -/
def Image.storeSound (m : Image) : Prop :=
  m.settings.sound ∧ (∀ z, (m.tuning.get z).kp ≤ 255 ∧ (m.tuning.get z).ki ≤ 255) ∧
  ∀ k, (m.slots.get k).revision ≤ 65535 ∧
    ∀ r, (m.slots.get k).recipe = some r → r.sound ∧ r.revision = (m.slots.get k).revision

/-! ## Records and the history (chapter 6) -/

/-- The ring is in its canonical form, the records are within the room of 1024, and the next serial, when there
is one, is a serial (R123, R131, R132). -/
def Image.roomSound (m : Image) : Prop :=
  m.ring.wf = true ∧ m.recordCount ≤ 1024 ∧ ∀ n, m.nextSerial = some n → 1 ≤ n ∧ n ≤ 4294967295

/-- The images Retained Memory holds beside the working one: the copy's and the one a store is writing. -/
def Retained.images (r : Retained) : List Image :=
  (match r.copy with
    | .good m _ => [m]
    | .bad => []) ++
  match r.store with
    | some f => [f.image]
    | none => []

/-- The working image and every image that may yet become it keep to the room, and while an order is current
there is room for its capture and a serial for it (R53, R132). -/
def State.roomSound (s : State) : Prop :=
  s.image.roomSound ∧ (∀ m ∈ s.retained.images, m.roomSound) ∧
  (s.station.current.isSome → s.image.recordCount < 1024 ∧ s.image.nextSerial.isSome)

/-- The working image and every image that may yet become it are sound in what the Recipe and Settings Store
keeps (R159, R171, R174). -/
def State.storeSound (s : State) : Prop :=
  s.image.storeSound ∧ ∀ m ∈ s.retained.images, m.storeSound

/-- The serials a press holds: its tickets' and its bound part's. -/
def Press.serials (x : Press) : List Nat :=
  x.tickets.map Ticket.serial ++ (x.bound.map Bound.serial).toList

/-- The serials of an image's open records for a press. -/
def Image.serialsOf (m : Image) (p : Fin 4) : List Nat :=
  (m.openTable.filter fun o => decide (o.record.press = p)).map fun o => o.record.serial

/-- The uncollected records of the ring, oldest first (R131). -/
def Ring.uncollected (r : Ring) : List Record := (List.range r.count).filterMap r.record

/-- The serials of an image's open records and of its closed uncollected records. -/
def Image.serials (m : Image) : List Nat :=
  (m.openTable.map fun o => o.record.serial) ++ m.ring.uncollected.map Record.serial

/-- No serial appears twice among an image's open records and its closed uncollected records, and each is below the
next serial while there is one (R123). -/
def Image.serialsSound (m : Image) : Prop :=
  m.serials.Nodup ∧ ∀ n ∈ m.serials, 1 ≤ n ∧ n ≤ 4294967295 ∧ ∀ k, m.nextSerial = some k → n < k

/-- The open records of each press are exactly those of its tickets and its bound part (R122), serials are sound
in every image, and while a reset lasts there is no ticket, no bound part and no open record (R138, R139, R156). -/
def State.partsSound (s : State) : Prop :=
  (∀ p, (s.press p).serials.Perm (s.image.serialsOf p)) ∧ s.image.serialsSound ∧
  (∀ m ∈ s.retained.images, m.serialsSound) ∧
  (s.phase = .recalling ∨ s.phase = .waiting → s.image = Image.default) ∧
  (s.phase = .held → s.image.openTable = [])

/-! ## The Link Port (chapter 10) -/

/-- A set of kinds in code order, each kind once. -/
def canonicalKinds (ks : List EventKind) : Prop := ks = EventKind.all.filter fun k => decide (k ∈ ks)

/-- The Link Port's sets are in canonical form, a waiting notice has set the flag (R198), and a reply that waits
or is being sent is that of a request in hand that has been answered (R192, R195). -/
def Link.sound (l : Link) : Prop :=
  l.discarded ≤ 65535 ∧ (∀ i, canonicalKinds (l.pending.get i)) ∧ canonicalKinds l.mask ∧
  (l.noticeWaiting = true → l.notice = true) ∧
  (l.reply.isSome → ∃ h, l.inHand = some h ∧ h.stage ≠ .handed) ∧
  ∀ x, l.transmission = some x → x.what = .reply →
    l.reply = none ∧ ∃ h, l.inHand = some h ∧ h.stage ≠ .handed

end Sys2Proof.Machine
end

