-- ==== Sys2Proof/WellFormed.lean ====
section
/-!
DEFINITION. When a command is one the row's event can be. Fixed-width operands carry their own bounds;
what is left are the frame commands, whose rows name frames of one sort only (R189 to R192), and the
lists whose length the layouts bound (R205).
-/

namespace Sys2Proof

/-- The command is one its row describes. -/
def Instr.wellFormed : Instr → Bool
  | .maskEvents _ _ kinds => decide (kinds.length ≤ 20)
  | .goodFrame _ _ body => decide (body.length ≤ 240)
  | .badCrcFrame kind tag body crc =>
    decide (body.length ≤ 240) && decide (crc ≠ crc16 (crcSpan kind tag body))
  | .overLengthFrame len _ _ _ => decide (240 < len.toNat)
  | .pressureDip _ fallen levels _ =>
    match fallen with
    | .closedLimit => !levels.closedLimit
    | .tonnageOk => !levels.tonnageOk
  | .curingConditionMet _ levels _ => levels.closedLimit && levels.tonnageOk
  | .pressureDipEnd _ levels _ => levels.closedLimit && levels.tonnageOk
  | .openLimitMet _ levels _ => levels.openLimit
  | .ejectOutMet _ levels _ => levels.ejectOut
  | .ejectHomeMet _ levels _ => levels.ejectHome
  | .openLimitDrift _ levels _ => !levels.openLimit
  | .identify _ | .cellStatus _ | .restart _ | .setClock _ _ | .readClock _ | .readEvents _ => true
  | .getSetting _ _ | .setSetting _ _ _ | .setTuning _ _ _ _ | .writeRecipe _ _ _ => true
  | .readRecipe _ _ | .assignRecipe _ _ _ | .setHeatMode _ _ _ _ _ | .readZones _ _ => true
  | .clearZone _ _ | .disableZone _ _ | .enableZone _ _ | .postOrder _ _ _ | .cancelOrder _ _ => true
  | .zeroScale _ | .readScale _ | .load _ _ _ | .close _ _ | .openPress _ _ | .abort _ _ => true
  | .release _ _ | .clearFault _ _ | .readPress _ _ | .readHistory _ _ _ | .collect _ _ => true
  | .annotate _ _ _ _ | .readOpen _ _ | .store _ | .snapshotCounters _ _ _ | .readCounters _ _ => true
  | .interbyteGapTimeout _ | .framingError _ | .transmitComplete | .thermocoupleReading _ _ => true
  | .heatFrameBoundary | .heaterSlot | .goodSample _ | .faultedSample | .settleTimeout => true
  | .ticketPotLifeExpiry _ _ | .boundPotLifeExpiry _ | .guardOkFall | .keyChange _ => true
  | .closeTimerExpiry _ | .openTimerExpiry _ | .strokeTimerExpiry _ | .minimumOpenExpiry _ => true
  | .storeComplete | .periodicStoreExpiry | .pfailRise | .powerOnReset _ | .recallComplete => true
  | .resetLineLow | .resetLineHigh | .clockTick | .supplyLost => true

end Sys2Proof
end

