-- ==== Sys2Proof/Certificates/Slice0/Obligations.lean ====
section
/-!
DEFINITION. The statements for the provers. A request's statement is about the request in hand that waits for
its owner (`State.holds`); `ARequestCommandIsItsFrameArriving` carries it to the frame that arrives.
-/

section ObligationList

open Sys2Proof Sys2Proof.Machine

/-! ## The step and the queue -/

/-- The block's step: the command at the front of the queue leaves it and acts on the rest. -/
def Obligations.StepRunsTheFrontCommand : Prop :=
  ∀ (c : Instr) (rest : List Instr) (s : State),
    step { s with pending := c :: rest } = exec c { s with pending := rest }

/-- Every command answers a next state, whatever the state, and no command touches the queue. -/
def Obligations.EveryCommandCompletesAndLeavesTheQueue : Prop :=
  ∀ (c : Instr) (s : State), ∃ t, exec c s = .next t ∧ t.pending = s.pending

/-- The model's idle step (log entry 5): while the part works a millisecond passes on every running timer, none
of which ends by it; in any other phase nothing happens. -/
def Obligations.AnIdleStepPassesOneMillisecond : Prop :=
  ∀ s : State, s.pending = [] →
    (s.phase ≠ .running → step s = .next s) ∧
    (s.phase = .running →
      ∃ t, step s = .next t ∧
        t = { s with presses := t.presses, station := t.station, retained := t.retained, clock := t.clock } ∧
        t.station = { s.station with settle := t.station.settle } ∧
        t.retained = { s.retained with periodic := t.retained.periodic } ∧
        t.clock = { s.clock with ms := t.clock.ms } ∧
        (∀ n, s.station.settle = some n → t.station.settle = some (if 1 < n then n - 1 else n)) ∧
        (s.station.settle = none → t.station.settle = none) ∧
        (∀ n, s.retained.periodic = some n → t.retained.periodic = some (if 1 < n then n - 1 else n)) ∧
        (s.retained.periodic = none → t.retained.periodic = none) ∧
        ∀ p, t.press p =
          { s.press p with
            tickets := (t.press p).tickets, bound := (t.press p).bound,
            closeTimer := (t.press p).closeTimer, openTimer := (t.press p).openTimer,
            strokeTimer := (t.press p).strokeTimer, minOpen := (t.press p).minOpen } ∧
          (t.press p).tickets =
            (s.press p).tickets.map (fun k => { k with pot := if 1 < k.pot then k.pot - 1 else k.pot }) ∧
          ∀ f ∈ [Press.closeTimer, Press.openTimer, Press.strokeTimer, Press.minOpen,
              fun x => x.bound.bind Bound.pot],
            f (t.press p) = (f (s.press p)).map fun n => if 1 < n then n - 1 else n)

/-! ## The Link Port: receiving (chapter 10) -/

/-- Frames that come to nothing. The CRC of the nine bytes 0x31 to 0x39 (R190), and a frame whose CRC does not match:
it is counted and nothing else comes of it. Then the bytes of R189 one at a time, and what a gap and a framing error do
with the frame they find (R189, R191). -/
def Obligations.DamagedFramesAreOnlyCounted : Prop :=
  (crc16 [0x31, 0x32, 0x33, 0x34, 0x35, 0x36, 0x37, 0x38, 0x39] = 0x29B1 ∧
   ∀ (s : State) (kind tag : Byte) (body : List Byte) (crc : Half),
     s.phase.receives = true → s.link.receiver = .hunting → body.length ≤ 240 →
     crc ≠ crc16 (BitVec.ofNat 8 body.length :: kind :: tag :: body) →
     exec (.badCrcFrame kind tag body crc) s =
       .next { s with link := { s.link with discarded := min 65535 (s.link.discarded + 1) } }.pump) ∧
  ((∀ (s : State) (b : Byte),
     (s.link.receiver = .hunting →
       s.hearByte b =
         if b = 0xA5 then { s with link := { s.link with receiver := .assembling [] } } else s) ∧
     (s.link.receiver = .skipping → s.hearByte b = s)) ∧
   ∀ (s : State) (bytes : List Byte), s.phase.receives = true →
     exec (.interbyteGapTimeout bytes) s = .next
       (match (s.hear bytes).link.receiver with
       | .assembling _ =>
         { s with
           link :=
             { (s.hear bytes).link with
               receiver := .hunting,
               discarded := min 65535 ((s.hear bytes).link.discarded + 1) } }.pump
       | .skipping => { s with link := { (s.hear bytes).link with receiver := .hunting } }.pump
       | .hunting => { s with link := (s.hear bytes).link }.pump) ∧
     exec (.framingError bytes) s = .next
       (match (s.hear bytes).link.receiver with
       | .assembling _ =>
         { s with
           link :=
             { (s.hear bytes).link with
               receiver := .hunting,
               discarded := min 65535 ((s.hear bytes).link.discarded + 1) } }.pump
       | .skipping => { s with link := (s.hear bytes).link }.pump
       | .hunting => { s with link := (s.hear bytes).link }.pump))

/-- A good frame (R192, R193): counted while a request is in hand; otherwise the request in hand, answered by the first
of the Link Port's checks that fails, or handed to its owner; from the start of a power-on reset until the recall
completes the answer is STARTING (R203). A frame with a length byte above 240 (R191): judged at its
tag byte, whatever follows. -/
def Obligations.GoodAndOverLengthFramesAreCheckedAndHandedOn : Prop :=
  (∀ (s : State) (kind tag : Byte) (body : List Byte),
     s.phase.receives = true → s.link.receiver = .hunting → body.length ≤ 240 →
     exec (.goodFrame kind tag body) s = .next
       (if s.link.inHand.isSome then
         { s with link := { s.link with discarded := min 65535 (s.link.discarded + 1) } }.pump
       else if s.phase = .recalling ∨ s.phase = .waiting then s.repliedTo kind tag body .starting []
       else if bodyLengths kind = none then s.repliedTo kind tag body .unknownKind []
       else if lengthAccepted kind body.length = false then s.repliedTo kind tag body .badLength []
       else { s with link := { s.link with inHand := some ⟨kind, tag, body, .handed⟩ } }.pump)) ∧
  (∀ (s : State) (len kind tag : Byte) (rest : List Byte),
     s.phase.receives = true → s.link.receiver = .hunting → 240 < len.toNat →
     exec (.overLengthFrame len kind tag rest) s = .next
       (if (bodyLengths kind).isSome ∧ s.link.inHand = none then
         { s with link := { s.link with receiver := .skipping } }.repliedTo kind tag []
           (if s.phase = Phase.recalling ∨ s.phase = Phase.waiting then .starting else .badLength) []
       else
         { s with
           link :=
             { s.link with
               receiver := .skipping,
               discarded := min 65535 (s.link.discarded + 1) } }.pump))

/-- A kind and an accepted body spell one request, and only one; and every request, written as its frame and read back,
is itself, with a body the Link Port accepts (R193, R205). -/
def Obligations.RequestsAndTheirFramesSpellEachOther : Prop :=
  (∀ (kind tag : Byte) (body : List Byte), lengthAccepted kind body.length = true →
     ∃ i : Instr, parseRequest kind tag body = some i ∧ i.wellFormed = true ∧
       i.request? = some (kind, tag, body) ∧
       ∀ j : Instr, j.wellFormed = true → j.request? = some (kind, tag, body) → j = i) ∧
  (∀ (i : Instr) (kind tag : Byte) (body : List Byte),
     i.wellFormed = true → i.request? = some (kind, tag, body) →
     body.length ≤ 240 ∧ lengthAccepted kind body.length = true ∧ parseRequest kind tag body = some i)

/-- A request command whose request is not already in hand is its frame arriving (log entry 4); from the start of a
power-on reset until the recall completes it is answered STARTING (R153, R203). -/
def Obligations.ARequestCommandIsItsFrameArriving : Prop :=
  ∀ (i : Instr) (kind tag : Byte) (body : List Byte) (s : State),
    i.wellFormed = true → i.request? = some (kind, tag, body) →
    (s.phase.receives = false → exec i s = .next s) ∧
    (s.phase = .running → s.link.receiver = .hunting → s.link.inHand = none →
      exec i s =
        exec i { s with link := { s.link with inHand := some ⟨kind, tag, body, .handed⟩ } }) ∧
    (s.phase = .recalling ∨ s.phase = .waiting → s.link.receiver = .hunting → s.link.inHand = none →
      exec i s = .next (s.repliedTo kind tag body .starting [])) ∧
    (s.phase.receives = true → s.link.receiver = .hunting → s.link.inHand.isSome →
      ¬ s.holds kind tag body →
      exec i s =
        .next { s with link := { s.link with discarded := min 65535 (s.link.discarded + 1) } }.pump)

/-! ## The Link Port: sending and events -/

/-- The transmitter (R195, R198): while the part works, while a start-up waits or recalls, and while RESET holds it, a frame
that is being sent goes on, then the reply goes first, then the notice, which is withdrawn with its flag when it would name no source.
In any other phase no frame is started. That frames are started at the end of a command, and so too while RESET holds
the part, is the model's reading (log entry 12). -/
def Obligations.AFreeTransmitterSendsTheReplyBeforeTheNotice : Prop :=
  ∀ s : State,
    (s.phase ≠ .running → s.phase ≠ .recalling → s.phase ≠ .waiting → s.phase ≠ .held → s.pump = s) ∧
    (s.phase = .running ∨ s.phase = .recalling ∨ s.phase = .waiting ∨ s.phase = .held →
      (s.link.transmission.isSome → s.pump = s) ∧
      (s.link.transmission = none →
        (∀ f, s.link.reply = some f →
          s.pump =
            { s with link := { s.link with transmission := some ⟨f, .reply, s.link.rate⟩, reply := none } }) ∧
        (s.link.reply = none → s.link.noticeWaiting = false → s.pump = s) ∧
        (s.link.reply = none → s.link.noticeWaiting = true →
          ((∀ i, ∀ k ∈ s.link.pending.get i, k ∉ s.link.mask) →
            s.pump = { s with link := { s.link with noticeWaiting := false, notice := false } }) ∧
          (∀ i, ∀ k ∈ s.link.pending.get i, k ∈ s.link.mask →
            ∃ sources : List (Fin 6),
              sources.Pairwise (· < ·) ∧
              (∀ j, j ∈ sources ↔ ∃ m ∈ s.link.pending.get j, m ∈ s.link.mask) ∧
              s.pump =
                { s with
                  link :=
                    { s.link with
                      transmission :=
                        some ⟨⟨0xC0, 0, sources.map fun j => BitVec.ofNat 8 j.val⟩, .notice, s.link.rate⟩,
                      noticeWaiting := false } }))))

/-- The last byte of a frame leaves the line (R195): a reply releases the request in hand, and after the reply to a
RESTART a warm reset follows (R202). That it begins and completes within this command is the model's choice (log entry
28), and so is that TRANSMIT_COMPLETE with no frame in transmission only lets the transmitter start what waits (log
entry 29). RESTART is replied OK and stays in hand as that request. -/
def Obligations.RestartIsRepliedAndTheSentReplyResets : Prop :=
  (∀ s : State,
     (s.link.transmission = none → exec .transmitComplete s = .next s.pump) ∧
     ∀ x, s.link.transmission = some x →
       (x.what ≠ .reply →
         exec .transmitComplete s = .next { s with link := { s.link with transmission := none } }.pump) ∧
       (x.what = .reply → (∀ h, s.link.inHand = some h → h.stage ≠ .restarting) →
         exec .transmitComplete s =
           .next { s with link := { s.link with transmission := none, inHand := none } }.pump) ∧
       (x.what = .reply → (∃ h, s.link.inHand = some h ∧ h.stage = .restarting) → s.phase = .running →
         exec .transmitComplete s =
           .next
             { s with link := { s.link with transmission := none, inHand := none } }.beginWarm.completeWarm.pump)) ∧
  (∀ (s : State) (tag : Byte), s.holds 0x03 tag [] →
     exec (.restart tag) s = .next
       { s with
         link := { s.link.repliedTo 0x03 tag [] .ok [] with inHand := some ⟨0x03, tag, [], .restarting⟩ } })

/-- Raising an event kind (R196, R198). -/
def Obligations.ARaisedKindJoinsItsSourceOnce : Prop :=
  ∀ (s : State) (src : Source) (k : EventKind), ∃ set : List EventKind,
    (∀ j, j ∈ set ↔ j = k ∨ j ∈ s.link.pending.get src.index) ∧ set.Nodup ∧
    s.raise src k =
      { s with
        link :=
          { s.link with
            pending := s.link.pending.set src.index set,
            notice := s.link.notice || (decide (k ∈ s.link.mask) && s.phase.notices),
            noticeWaiting :=
              s.link.noticeWaiting ||
                (!s.link.notice && decide (k ∈ s.link.mask) && s.phase.notices) } }

/-- READ_EVENTS (R199) replies with the pending sets and empties them. MASK_EVENTS (R197, R198): refused for a mode or a
kind that is none; otherwise the mask changes as the mode says, ENABLE of a pending kind is offered to the notice rule
(log entry 19), and the reply shows the new mask. -/
def Obligations.EventsAreReadAndMasked : Prop :=
  (∀ (s : State) (tag : Byte), s.holds 0x06 tag [] →
     exec (.readEvents tag) s = .next
       ({ s with
           link :=
             { s.link with
               pending := Tab.fill [],
               notice := false,
               noticeWaiting := false } }.repliedTo 0x06 tag [] .ok
         ((List.finRange 6).flatMap fun i =>
           BitVec.ofNat 8 (s.link.pending.get i).length :: (s.link.pending.get i).map EventKind.code))) ∧
  (∀ (s : State) (tag mode : Byte) (bytes : List Byte), s.holds 0x07 tag (mode :: bytes) →
     ((mode ≠ 1 ∧ mode ≠ 2) ∨ (∃ b ∈ bytes, ∀ k : EventKind, k.code ≠ b) →
       exec (.maskEvents tag mode bytes) s = .next (s.repliedTo 0x07 tag (mode :: bytes) .badValue [])) ∧
     ∀ ks : List EventKind, bytes = ks.map EventKind.code → mode = 1 ∨ mode = 2 →
       let mask :=
         if mode = 1 then EventKind.all.filter fun k => decide (k ∈ s.link.mask) || decide (k ∈ ks)
         else s.link.mask.filter fun k => !decide (k ∈ ks)
       let offered :=
         decide (mode = 1) &&
           (List.finRange 6).any fun i => ks.any fun k => decide (k ∈ s.link.pending.get i)
       exec (.maskEvents tag mode bytes) s = .next
         ({ s with
             link :=
               { s.link with
                 mask := mask,
                 notice := s.link.notice || offered,
                 noticeWaiting := s.link.noticeWaiting || (offered && !s.link.notice) } }.repliedTo 0x07 tag
           (mode :: bytes) .ok (BitVec.ofNat 8 mask.length :: mask.map EventKind.code)))

/-! ## Cell messages (chapter 10) -/

/-- IDENTIFY (R200): vendor 0x0E71, part 0x0480, revision 3 and the cell number. CELL_STATUS (R201): the nine items as
they stand, the four press states in order. Neither changes anything but the reply. -/
def Obligations.IdentifyAndCellStatusReplyTheirFigures : Prop :=
  (∀ (s : State) (tag : Byte), s.holds 0x01 tag [] →
     exec (.identify tag) s = .next
       (s.repliedTo 0x01 tag [] .ok
         [0x0E, 0x71, 0x04, 0x80, 3, BitVec.ofNat 8 s.image.settings.cellNumber])) ∧
  (∀ (s : State) (tag : Byte), s.holds 0x02 tag [] →
     exec (.cellStatus tag) s = .next
       (s.repliedTo 0x02 tag [] .ok
         (([if s.retained.resetKind = .powerOn then 0 else 1,
             if s.retained.recallResult = .recalled then 0 else 1, if s.clock.set then 1 else 0,
             if s.retained.store.isSome then 2
               else if s.retained.generation = s.retained.storedGeneration then 0 else 1] : List Byte) ++
           be16 s.link.discarded ++
           [BitVec.ofNat 8 (s.press 0).state.code, BitVec.ofNat 8 (s.press 1).state.code,
             BitVec.ofNat 8 (s.press 2).state.code, BitVec.ofNat 8 (s.press 3).state.code,
             BitVec.ofNat 8 s.station.state.code, BitVec.ofNat 8 s.image.openTable.length] ++
           be16 s.image.ring.count)))

/-! ## The clock and the counters (chapter 9) -/

/-- SET_CLOCK and READ_CLOCK (R185, R186). CLOCK_TICK (R184): the value grows by 1 and wraps, in either state, from the
start of a power-on reset until the part stops. -/
def Obligations.TheClockIsSetReadAndCounts : Prop :=
  ((∀ (s : State) (tag : Byte) (n : Word), s.holds 0x04 tag (wordBytes n) →
     exec (.setClock tag n) s = .next
       ({ s with clock := ⟨n.toNat, true, 0⟩ }.repliedTo 0x04 tag (wordBytes n) .ok [])) ∧
   ∀ (s : State) (tag : Byte), s.holds 0x05 tag [] →
     exec (.readClock tag) s = .next
       (s.repliedTo 0x05 tag [] .ok
         (wordBytes (BitVec.ofNat 32 s.clock.value) ++ [if s.clock.set then 1 else 0]))) ∧
  (∀ s : State,
     (s.phase ≠ .stopped → s.phase ≠ .unpowered →
       exec .clockTick s = .next
         { s with
           clock := ⟨if s.clock.value = 4294967295 then 0 else (s.clock.value + 1) % 4294967296, s.clock.set, 0⟩ }) ∧
     (s.phase = .stopped ∨ s.phase = .unpowered → exec .clockTick s = .next s))

/-- SNAPSHOT_COUNTERS (R180): the presses named are copied at one instant, and with clear their live counters and
markers become 0 and clear, one change; a field that is none of its values is refused. READ_COUNTERS (R182): the
snapshot whole, and nothing changes; ALL and every number above 3 are refused. -/
def Obligations.CountersAreSnapshotAndRead : Prop :=
  (∀ (s : State) (tag press clear : Byte), s.holds 0x35 tag [press, clear] →
     (4 < press.toNat ∨ 1 < clear.toNat →
       exec (.snapshotCounters tag press clear) s =
         .next (s.repliedTo 0x35 tag [press, clear] .badValue [])) ∧
     (press.toNat ≤ 4 → clear.toNat ≤ 1 →
       ∃ (snaps : Tab Snapshot 4) (counters : Tab Counters 4),
         (∀ p : Fin 4, snaps.get p =
           if press.toNat = p.val ∨ press.toNat = 4 then
             { counters := s.image.counters.get p, taken := true,
               time := if s.clock.set then some s.clock.value else none, cleared := decide (clear.toNat = 1) }
           else s.snapshots.get p) ∧
         (∀ p : Fin 4, counters.get p =
           if (press.toNat = p.val ∨ press.toNat = 4) ∧ clear.toNat = 1 then Counters.zero
           else s.image.counters.get p) ∧
         exec (.snapshotCounters tag press clear) s = .next
           ({ s with
               snapshots := snaps,
               image := { s.image with counters := counters },
               retained :=
                 { s.retained with
                   generation :=
                     if clear.toNat = 1 then (s.retained.generation + 1) % 4294967296
                     else s.retained.generation } }.repliedTo 0x35 tag [press, clear] .ok []))) ∧
  (∀ (s : State) (tag press : Byte), s.holds 0x36 tag [press] →
     (3 < press.toNat →
       exec (.readCounters tag press) s = .next (s.repliedTo 0x36 tag [press] .badValue [])) ∧
     ∀ p : Fin 4, press.toNat = p.val →
       let x := s.snapshots.get p
       exec (.readCounters tag press) s = .next
         (s.repliedTo 0x36 tag [press] .ok
           (be16 x.counters.cycles.n ++ be16 x.counters.good.n ++ be16 x.counters.suspect.n ++
             be16 x.counters.scrap.n ++ be16 x.counters.rejects.n ++ be16 x.counters.stuck.n ++
             [x.counters.cycles.saturated, x.counters.good.saturated, x.counters.suspect.saturated,
               x.counters.scrap.saturated, x.counters.rejects.saturated, x.counters.stuck.saturated,
               x.taken, x.time.isSome].map (fun b => if b then (1 : Byte) else 0) ++
             be32 (x.time.getD 0) ++ [if x.cleared then 1 else 0])))

/-! ## Recipes and settings (chapter 8) -/

/-- SET_SETTING (R170 to R172): an identifier that is no setting is refused, and so is turning the lock off
while it is in force; any other value is brought into the setting's range, stored, and returned. -/
def Obligations.SetSettingStoresTheValueInItsRange : Prop :=
  ∀ (s : State) (tag ident : Byte) (value : Word), s.holds 0x11 tag (ident :: wordBytes value) →
    let n := ident.toNat
    let v := value.toInt
    (n = 0 ∨ 17 < n →
      exec (.setSetting tag ident value) s =
        .next (s.repliedTo 0x11 tag (ident :: wordBytes value) .badValue [])) ∧
    (n = 4 → v = 0 → s.image.settings.recipeLock = true → s.inputs.key = false →
      exec (.setSetting tag ident value) s =
        .next (s.repliedTo 0x11 tag (ident :: wordBytes value) .locked [])) ∧
    (1 ≤ n → n ≤ 17 → ¬ (n = 4 ∧ v = 0 ∧ s.image.settings.recipeLock = true ∧ s.inputs.key = false) →
      ∃ (w : Int) (c : Settings),
        c.value n = some w ∧ (∀ j, j ≠ n → c.value j = s.image.settings.value j) ∧
        (n = 2 ∨ n = 4 → w = if v = 0 then 0 else 1) ∧
        (n = 14 →
          w = if v < 1 then 0 else if v < 10 then 10 else if 3600 < v then 3600 else v) ∧
        (n = 16 →
          w = if v < 19200 then 9600 else if v < 57600 then 19200 else if v < 115200 then 57600 else 115200) ∧
        (∀ lo hi : Int,
          (n, lo, hi) ∈
            ([(1, 1, 24), (3, 50, 500), (5, 1, 100), (6, 0, 2000), (7, 0, 50), (8, 1, 50), (9, 50, 5000),
              (10, 2, 60), (11, 1000, 30000), (12, 1, 1048575), (13, -8388608, 8388607), (15, 0, 1024),
              (17, 0, 255)] : List (Nat × Int × Int)) →
          w = max lo (min hi v)) ∧
        let t : State :=
          { s with
            image := { s.image with settings := c },
            retained :=
              { s.retained with
                generation := (s.retained.generation + 1) % 4294967296,
                periodic :=
                  if n = 14 then (if w = 0 then none else some (w.toNat * 1000)) else s.retained.periodic } }
        exec (.setSetting tag ident value) s = .next
          ((if n = 15 then t.historyTest else t).repliedTo 0x11 tag (ident :: wordBytes value) .ok
            (wordBytes (BitVec.ofInt 32 w))))

/-- GET_SETTING (R173): settings 1 to 17, tunings 32 to 55, and nothing else; it changes nothing. SET_TUNING (R174): the
gains of one zone, whatever the states and the lock; only the image changes. -/
def Obligations.GetSettingReadsAndSetTuningWrites : Prop :=
  (∀ (s : State) (tag ident : Byte), s.holds 0x10 tag [ident] →
     (∀ w, s.image.settings.value ident.toNat = some w →
       exec (.getSetting tag ident) s =
         .next (s.repliedTo 0x10 tag [ident] .ok (wordBytes (BitVec.ofInt 32 w)))) ∧
     ((s.image.settings.value ident.toNat).isSome ↔ 1 ≤ ident.toNat ∧ ident.toNat ≤ 17) ∧
     (∀ z : Fin 24, ident.toNat = z.val + 32 →
       exec (.getSetting tag ident) s = .next
         (s.repliedTo 0x10 tag [ident] .ok
           (be32 ((s.image.tuning.get z).kp * 256 + (s.image.tuning.get z).ki)))) ∧
     (ident.toNat = 0 ∨ (17 < ident.toNat ∧ ident.toNat < 32) ∨ 55 < ident.toNat →
       exec (.getSetting tag ident) s = .next (s.repliedTo 0x10 tag [ident] .badValue []))) ∧
  (∀ (s : State) (tag zone kp ki : Byte), s.holds 0x12 tag [zone, kp, ki] →
     (23 < zone.toNat →
       exec (.setTuning tag zone kp ki) s = .next (s.repliedTo 0x12 tag [zone, kp, ki] .badValue [])) ∧
     ∀ z : Fin 24, zone.toNat = z.val →
       exec (.setTuning tag zone kp ki) s = .next
         ({ s with
             image := { s.image with tuning := s.image.tuning.set z ⟨kp.toNat, ki.toNat⟩ },
             retained :=
               { s.retained with
                 generation := (s.retained.generation + 1) % 4294967296 } }.repliedTo 0x12 tag [zone, kp, ki]
           .ok [kp, ki]))

/-- WRITE_RECIPE (R161 to R165): the checks in order, then the slot takes the clamped record with the next revision, one
change. The ten structural checks of R164, in order, each with the number of the field it names, made on the clamped
record. What is stored (R160, R163): each numeric field brought into its range, each unused entry zero, and the rest as
sent; a record that passes is sound (R159). The numbers of the fields that needed clamping, each once and rising. -/
def Obligations.WriteRecipeChecksClampsAndStores : Prop :=
  (∀ (s : State) (tag slot : Byte) (r : RawRecipe), s.holds 0x13 tag (slot :: r.bytes) →
     let busy (k : Fin 16) : Prop :=
       (s.image.slots.get k).recipe ≠ none ∧
         ∃ p, s.image.assigned.get p = some k ∧
           ((s.pressHeat p).mode = .run ∨ (s.press p).tickets ≠ [] ∨ (s.press p).bound ≠ none ∨
             ∃ o, s.station.current = some o ∧ o.press = p)
     (15 < slot.toNat →
       exec (.writeRecipe tag slot r) s = .next (s.repliedTo 0x13 tag (slot :: r.bytes) .badValue [])) ∧
     ∀ k : Fin 16, slot.toNat = k.val →
       (s.image.settings.recipeLock = true ∧ s.inputs.key = false →
         exec (.writeRecipe tag slot r) s = .next (s.repliedTo 0x13 tag (slot :: r.bytes) .locked [])) ∧
       (¬ (s.image.settings.recipeLock = true ∧ s.inputs.key = false) →
         (busy k →
           exec (.writeRecipe tag slot r) s = .next (s.repliedTo 0x13 tag (slot :: r.bytes) .inUse [])) ∧
         (¬ busy k → ∀ n, r.badField = some n →
           exec (.writeRecipe tag slot r) s =
             .next (s.repliedTo 0x13 tag (slot :: r.bytes) .badRecipe [BitVec.ofNat 8 n])) ∧
         (¬ busy k → r.badField = none →
           let revision := ((s.image.slots.get k).revision + 1) % 65536
           exec (.writeRecipe tag slot r) s = .next
             ({ s with
                 image :=
                   { s.image with slots := s.image.slots.set k ⟨revision, some (r.stored revision)⟩ },
                 retained :=
                   { s.retained with
                     generation :=
                       (s.retained.generation + 1) % 4294967296 } }.repliedTo 0x13 tag (slot :: r.bytes) .ok
               (be16 revision ++
                 BitVec.ofNat 8 r.clampedNumbers.length :: r.clampedNumbers.map (BitVec.ofNat 8)))))) ∧
  (∀ r : RawRecipe,
     let within (lo hi x : Int) : Int := max lo (min hi x)
     let n := r.segmentCount.toNat
     let m := r.bandCount.toNat
     let name := r.name.toList.takeWhile fun b => !decide (b = 0)
     let lower (i : Fin 8) : Int := within 0 4000 (r.bands.get i).lower.toInt
     let most := within 1 7200 r.maxCure.toInt
     let unprintable : Prop := ∃ b ∈ name, b.toNat < 32 ∨ 126 < b.toNat
     let wrongKind (i : Fin 8) : Prop := i.val < n ∧ 2 < (r.segments.get i).endKind.toNat
     let noClose : Prop := ∀ i : Fin 8, i.val < n → (r.segments.get i).endKind.toNat ≠ 1
     let notRising (i : Fin 8) : Prop := i.val < m ∧ ∃ j : Fin 8, j.val + 1 = i.val ∧ lower i ≤ lower j
     let tooLong : Prop := most < within 0 3600 r.minCure.toInt ∨ most < within 1 3600 r.cureTarget.toInt
     (unprintable → r.badField = some 1) ∧
     (¬ unprintable →
       (n < 1 ∨ 8 < n → r.badField = some 5) ∧
       (1 ≤ n → n ≤ 8 →
         (n ≤ r.restSegment.toNat → r.badField = some 6) ∧
         (r.restSegment.toNat < n →
           (∀ i, wrongKind i → (∀ j, j < i → ¬ wrongKind j) → r.badField = some (10 + 4 * i.val)) ∧
           ((∀ i, ¬ wrongKind i) →
             (noClose → r.badField = some (10 + 4 * (n - 1))) ∧
             (¬ noClose →
               (m < 1 ∨ 8 < m → r.badField = some 46) ∧
               (1 ≤ m → m ≤ 8 →
                 (∀ i, notRising i → (∀ j, j < i → ¬ notRising j) → r.badField = some (47 + 2 * i.val)) ∧
                 ((∀ i, ¬ notRising i) →
                   (1 < r.autoOpen.toNat → r.badField = some 67) ∧
                   (r.autoOpen.toNat ≤ 1 →
                     (tooLong → r.badField = some 65) ∧ (¬ tooLong → r.badField = none))))))))) ∧
     (let sent : List (Nat × Int × Int × Int) :=
        [(2, r.nominal.toInt, 100, 30000), (3, r.tolerance.toInt, 1, 100), (4, r.potLife.toInt, 10, 7200),
          (45, r.readyBand.toInt, 1, 200), (63, r.cureTarget.toInt, 1, 3600), (64, r.minCure.toInt, 0, 3600),
          (65, r.maxCure.toInt, 1, 7200), (66, r.overcure.toInt, 16, 64), (68, r.closeTimeout.toInt, 1, 120),
          (69, r.openTimeout.toInt, 1, 120), (70, r.minOpen.toInt, 0, 600), (71, r.demouldTries.toNat, 0, 3),
          (72, r.strokeTimeout.toInt, 1, 30)]
      let numeric (field : Nat × Int × Int × Int) : Prop :=
        field ∈ sent ∨
        (∃ i : Fin 8, i.val < n ∧
          (field = (7 + 4 * i.val, (r.segments.get i).target.toInt, 0, 4000) ∨
            field = (8 + 4 * i.val, (r.segments.get i).rate.toInt, 0, 100))) ∨
        (∃ i : Fin 6, field = (39 + i.val, (r.offsets.get i).toInt, -200, 200)) ∨
        ∃ i : Fin 8, i.val < m ∧
          (field = (47 + 2 * i.val, (r.bands.get i).lower.toInt, 0, 4000) ∨
            field = (48 + 2 * i.val, (r.bands.get i).weight.toInt, 0, 64))
      r.clampedNumbers.Pairwise (· < ·) ∧
      ∀ k, k ∈ r.clampedNumbers ↔ ∃ v lo hi : Int, numeric (k, v, lo, hi) ∧ (v < lo ∨ hi < v)) ∧
     ∀ revision : Nat,
       let x := r.stored revision
       (r.badField = none → x.sound) ∧ x.revision = revision ∧ x.name = name ∧ x.segmentCount = n ∧
       x.restSegment = r.restSegment.toNat ∧ x.bandCount = m ∧
       (x.autoOpen = true ↔ r.autoOpen.toNat = 1) ∧
       (x.nominal : Int) = within 100 30000 r.nominal.toInt ∧
       (x.tolerance : Int) = within 1 100 r.tolerance.toInt ∧
       (x.potLife : Int) = within 10 7200 r.potLife.toInt ∧
       (x.readyBand : Int) = within 1 200 r.readyBand.toInt ∧
       (x.cureTarget : Int) = within 1 3600 r.cureTarget.toInt ∧
       (x.minCure : Int) = within 0 3600 r.minCure.toInt ∧ (x.maxCure : Int) = most ∧
       (x.overcure : Int) = within 16 64 r.overcure.toInt ∧
       (x.closeTimeout : Int) = within 1 120 r.closeTimeout.toInt ∧
       (x.openTimeout : Int) = within 1 120 r.openTimeout.toInt ∧
       (x.minOpen : Int) = within 0 600 r.minOpen.toInt ∧
       (x.demouldTries : Int) = within 0 3 r.demouldTries.toNat ∧
       (x.strokeTimeout : Int) = within 1 30 r.strokeTimeout.toInt ∧
       (∀ i, x.offsets.get i = within (-200) 200 (r.offsets.get i).toInt) ∧
       (∀ i : Fin 8,
         (n ≤ i.val → x.segments.get i = ⟨0, 0, 0, .time⟩) ∧
         (i.val < n →
           ((x.segments.get i).target : Int) = within 0 4000 (r.segments.get i).target.toInt ∧
           ((x.segments.get i).rate : Int) = within 0 100 (r.segments.get i).rate.toInt ∧
           (x.segments.get i).hold = (r.segments.get i).hold.toNat ∧
           ((r.segments.get i).endKind.toNat ≤ 2 →
             (x.segments.get i).endKind.code = (r.segments.get i).endKind.toNat))) ∧
       ∀ i : Fin 8,
         (m ≤ i.val → x.bands.get i = ⟨0, 0⟩) ∧
         (i.val < m →
           ((x.bands.get i).lower : Int) = lower i ∧
           ((x.bands.get i).weight : Int) = within 0 64 (r.bands.get i).weight.toInt))

/-- READ_RECIPE (R167): the record as stored and the presses assigned to the slot; nothing changes. ASSIGN_RECIPE
(R168): its checks in order, then the press's assigned slot becomes the slot given, one change. -/
def Obligations.RecipesAreReadAndAssigned : Prop :=
  (∀ (s : State) (tag slot : Byte), s.holds 0x14 tag [slot] →
     (15 < slot.toNat →
       exec (.readRecipe tag slot) s = .next (s.repliedTo 0x14 tag [slot] .badValue [])) ∧
     ∀ k : Fin 16, slot.toNat = k.val →
       ((s.image.slots.get k).recipe = none →
         exec (.readRecipe tag slot) s = .next (s.repliedTo 0x14 tag [slot] .notFound [])) ∧
       ∀ r, (s.image.slots.get k).recipe = some r →
         ∃ presses : Byte,
           (∀ i : Fin 8, presses.getLsbD i.val = true ↔
             ∃ p : Fin 4, p.val = i.val ∧ s.image.assigned.get p = some k) ∧
           exec (.readRecipe tag slot) s =
             .next (s.repliedTo 0x14 tag [slot] .ok (be16 r.revision ++ r.bytes ++ [presses]))) ∧
  (∀ (s : State) (tag press slot : Byte), s.holds 0x15 tag [press, slot] →
     (3 < press.toNat ∨ 15 < slot.toNat →
       exec (.assignRecipe tag press slot) s = .next (s.repliedTo 0x15 tag [press, slot] .badValue [])) ∧
     ∀ (p : Fin 4) (k : Fin 16), press.toNat = p.val → slot.toNat = k.val →
       let busy : Prop :=
         (s.pressHeat p).mode = .run ∨ (s.press p).tickets ≠ [] ∨ (s.press p).bound ≠ none ∨
           ∃ o, s.station.current = some o ∧ o.press = p
       ((s.image.slots.get k).recipe = none →
         exec (.assignRecipe tag press slot) s = .next (s.repliedTo 0x15 tag [press, slot] .notFound [])) ∧
       ((s.image.slots.get k).recipe ≠ none → busy →
         exec (.assignRecipe tag press slot) s = .next (s.repliedTo 0x15 tag [press, slot] .inUse [])) ∧
       ((s.image.slots.get k).recipe ≠ none → ¬ busy →
         exec (.assignRecipe tag press slot) s = .next
           ({ s with
               image := { s.image with assigned := s.image.assigned.set p (some k) },
               retained :=
                 { s.retained with
                   generation :=
                     (s.retained.generation + 1) % 4294967296 } }.repliedTo 0x15 tag [press, slot] .ok [])))

/-! ## Retained memory and start-up (chapter 7) -/

/-- STORE (R149, R147): replied OK at once; it starts a store of the image and generation as they stand, or sets the
store-again flag while one is in flight.

STORE_COMPLETE (R148, R152, R157): the copy becomes good with the image and generation the store began with, and
STORE_DONE is raised. Outside power-fall handling the store-again flag, if set, is cleared and starts a new store. In
power-fall handling a dirty image gets one final store, and otherwise the part stops, and the start-up begins if PFAIL
has fallen since that handling began (that it then waits while PFAIL is high again is the model's reading, log entry 36).
Without a store in flight nothing happens.

PERIODIC_STORE_EXPIRY (R150): the timer starts again with the interval as it stands, and a dirty image with no store in
flight gets a store. A timer that does not run does nothing. -/
def Obligations.StoresStartCompleteAndRepeat : Prop :=
  (∀ (s : State) (tag : Byte), s.holds 0x34 tag [] →
     (s.retained.store = none →
       exec (.store tag) s = .next
         ({ s with
             retained :=
               { s.retained with
                 store := some ⟨s.image, s.retained.generation⟩ } }.repliedTo 0x34 tag [] .ok [])) ∧
     (s.retained.store ≠ none →
       exec (.store tag) s = .next
         ({ s with retained := { s.retained with storeAgain := true } }.repliedTo 0x34 tag [] .ok []))) ∧
  (∀ s : State,
     (s.retained.store = none → exec .storeComplete s = .next s) ∧
     ∀ f : InFlight, s.retained.store = some f →
       let r : Retained :=
         { s.retained with copy := .good f.image f.noted, storedGeneration := f.noted, store := none }
       let t : State := { s with retained := r }.raise .cell .storeDone
       (s.phase = .running ∨ s.phase = .held →
         exec .storeComplete s = .next
           (if s.retained.storeAgain then
             { t with
               retained :=
                 { r with storeAgain := false, store := some ⟨s.image, s.retained.generation⟩ } }.pump
           else t.pump)) ∧
       ∀ final fallen, s.phase = .powerFall final fallen →
         (final = false → s.retained.generation ≠ f.noted →
           exec .storeComplete s = .next
             { t with
               phase := .powerFall true fallen,
               retained := { r with store := some ⟨s.image, s.retained.generation⟩ } }) ∧
         (final = true ∨ s.retained.generation = f.noted →
           (fallen = false → exec .storeComplete s = .next { t with phase := .stopped }) ∧
           (fallen = true → exec .storeComplete s = .next { t with phase := .stopped }.powerOn))) ∧
  (∀ s : State, s.phase = .running →
     (s.retained.periodic = none → exec .periodicStoreExpiry s = .next s.pump) ∧
     (s.retained.periodic ≠ none →
       exec .periodicStoreExpiry s = .next
         { s with
           retained :=
             { s.retained with
               periodic :=
                 if s.image.settings.storeInterval = 0 then none
                 else some (s.image.settings.storeInterval * 1000),
               store :=
                 if s.retained.store = none ∧ s.retained.generation ≠ s.retained.storedGeneration then
                   some ⟨s.image, s.retained.generation⟩
                 else s.retained.store } }.pump))

/-- PFAIL rises outside the recall (R151, R152): every output goes off, the cures and strokes in progress are
written into their records, the Link Port stops with only its frame in transmission left, the timer and the
store-again flag go, and a store in flight runs on; without one a dirty image gets its final store, and with
a clean one the part stops. During the recall the image is discarded and the part waits (R153); that it then holds the
defaults and counts as stopped is the model's choice (log entry 22), and so are what becomes of the request in hand
and the waiting reply (log entry 38) and the receiver's HUNTING in power-fall handling (log entry 37). A second rise
there has no effect but on the input's own level.

What is written as a cycle is cut short, by power fall and by a warm reset (R114, R116, R117, R127): a press in CURING
fixes its verdict, in its own figures and in its record's cure summary; a press in EJECTING writes its record's demould
summary, the stroke it is in and not free; no other press and no other record changes. Each press that writes makes one
change (log entry 8). -/
def Obligations.PfailMakesTheOutputsSafeAndSavesTheImage : Prop :=
  ∀ s : State,
    (s.phase = .running ∨ s.phase = .held →
      ∃ t, exec .pfailRise s = .next t ∧ t.pfail = true ∧
        (∀ z, t.zone z = { s.zone z with out := false }) ∧
        (∀ p, (t.press p).valves = ⟨false, false, false⟩ ∧
          (t.press p).state = (s.press p).state ∧ (t.press p).tickets = (s.press p).tickets ∧
          (t.press p).bound = (s.press p).bound ∧ (t.press p).stroke = (s.press p).stroke ∧
          ((s.press p).state = .curing → (t.press p).cure.verdict.isSome) ∧
          ((s.press p).state ≠ .curing → (t.press p).cure = (s.press p).cure)) ∧
        t.image = s.cutAllShort.image ∧ t.retained.generation = s.cutAllShort.retained.generation ∧
        t.retained.copy = s.retained.copy ∧ t.retained.storedGeneration = s.retained.storedGeneration ∧
        t.retained.periodic = none ∧ t.retained.storeAgain = false ∧
        t.link.receiver = .hunting ∧ t.link.inHand = none ∧ t.link.reply = none ∧
        t.link.noticeWaiting = false ∧ t.link.pending = s.link.pending ∧
        t.link.transmission.map Transmission.frame = s.link.transmission.map Transmission.frame ∧
        t.heat = s.heat ∧ t.alloc = s.alloc ∧ t.station = s.station ∧ t.clock = s.clock ∧
        t.snapshots = s.snapshots ∧
        (s.retained.store ≠ none → t.phase = .powerFall false false ∧ t.retained.store = s.retained.store) ∧
        (s.retained.store = none →
          (t.retained.generation ≠ s.retained.storedGeneration →
            t.phase = .powerFall true false ∧ t.retained.store = some ⟨t.image, t.retained.generation⟩) ∧
          (t.retained.generation = s.retained.storedGeneration →
            t.phase = .stopped ∧ t.retained.store = none))) ∧
    (s.phase = .recalling →
      ∃ t, exec .pfailRise s = .next t ∧ t.pfail = true ∧ t.phase = .stopped ∧
        t.image = Image.default ∧ t.retained = s.retained ∧ t.link.inHand = none ∧ t.link.reply = none) ∧
    (∀ final fallen, s.phase = .powerFall final fallen → exec .pfailRise s = .next { s with pfail := true }) ∧
    ((∀ p q b c, (s.press p).bound = some b → (s.press q).bound = some c → b.serial = c.serial → p = q) →
      let verdict (p : Fin 4) (r : Recipe) : Verdict :=
        if (s.press p).cure.credit < (s.press p).cure.target then .under
        else if (s.press p).cure.target * r.overcure < (s.press p).cure.credit * 16 then .over_
        else .normal
      let writing : List (Fin 4) :=
        (List.finRange 4).filter fun p =>
          (s.press p).bound.isSome &&
            (decide ((s.press p).state = .curing) ||
              (decide ((s.press p).state = .ejecting) && (s.press p).stroke.isSome))
      let t := s.cutAllShort
      t =
        { s with
          presses := t.presses,
          image := { s.image with openTable := t.image.openTable },
          retained :=
            { s.retained with
              generation :=
                if writing.length = 0 then s.retained.generation
                else (s.retained.generation + writing.length) % 4294967296 } } ∧
      (∀ p,
        ((s.press p).state ≠ .curing → t.press p = s.press p) ∧
        ∀ r, (s.press p).state = .curing → s.recipeOf p = some r →
          t.press p =
            { s.press p with cure := { (s.press p).cure with verdict := some (verdict p r) } }) ∧
      ∃ f : OpenRecord → OpenRecord, t.image.openTable = s.image.openTable.map f ∧
        ∀ o : OpenRecord,
          (∀ p b r, (s.press p).bound = some b → b.serial = o.record.serial → (s.press p).state = .curing →
            s.recipeOf p = some r →
            f o =
              { o with
                record :=
                  { o.record with
                    cure :=
                      o.record.cure.map fun (u : CureSummary) => { u with verdict := some (verdict p r) } } }) ∧
          (∀ p b k, (s.press p).bound = some b → b.serial = o.record.serial →
            (s.press p).state = .ejecting → (s.press p).stroke = some k →
            f o = { o with record := { o.record with demould := some ⟨k.count, false⟩ } }) ∧
          ((∀ p b, (s.press p).bound = some b → b.serial = o.record.serial →
              (s.press p).state ≠ .curing ∧ ((s.press p).state = .ejecting → (s.press p).stroke = none)) →
            f o = o))

/-- Closing every open record, as a recall and a warm reset do (R138, R140, R156): one after another in ascending order of
serial, each enters the ring as its youngest uncollected record with the disposition, no cause and the closing time of
the clock, and adds 1 to the scrap counter of its press; the records that were there stay, and each closing is one
change (R156's worked example).

RECALL_COMPLETE (R154 to R156, R99, R133): a good copy's image, its open records closed so with SCRAP_POWER, or the
defaults; then the blocks start, each press from its limit inputs. -/
def Obligations.TheRecallRestoresTheImageAndStartsTheBlocks : Prop :=
  (∀ (s : State) (d : Disposition), d = .scrapReset ∨ d = .scrapPower →
    (s.image.openTable.map fun o => o.record.serial).Nodup →
    s.image.ring.count + s.image.openTable.length ≤ 1024 →
    let t := s.closeAll d
    ∃ sorted : List OpenRecord,
      sorted.Perm s.image.openTable ∧
      sorted.Pairwise (fun o q => o.record.serial < q.record.serial) ∧
      t =
        { s with
          image :=
            { s.image with openTable := [], ring := t.image.ring, counters := t.image.counters },
          retained :=
            { s.retained with
              generation :=
                if sorted.length = 0 then s.retained.generation
                else (s.retained.generation + sorted.length) % 4294967296 } } ∧
      t.image.ring.oldest = s.image.ring.oldest ∧
      t.image.ring.count = s.image.ring.count + sorted.length ∧
      (∀ k, k < s.image.ring.count → t.image.ring.record k = s.image.ring.record k) ∧
      (∀ k o, sorted[k]? = some o →
        t.image.ring.record (s.image.ring.count + k) =
          some { o.record with
            disposition := some d, cause := none,
            closingTime := if s.clock.set then some s.clock.value else none }) ∧
      ∀ p : Fin 4,
        let c := s.image.counters.get p
        let n := (sorted.filter fun o => decide (o.record.press = p)).length
        t.image.counters.get p =
          { c with
            scrap :=
              { n := if c.scrap.n < 65535 then min 65535 (c.scrap.n + n) else c.scrap.n,
                saturated := c.scrap.saturated || decide (0 < n ∧ 65535 < c.scrap.n + n) } }) ∧
  ∀ s : State, s.phase = .recalling →
    ∃ t, exec .recallComplete s = .next t ∧ t.phase = .running ∧ t.inputs = s.lines ∧
      (s.retained.copy = .bad →
        t.image = Image.default ∧ t.retained.generation = 1 ∧ t.retained.storedGeneration = 0 ∧
        t.retained.recallResult = .defaulted ∧ EventKind.memoryDefaulted ∈ t.link.pending.get 5) ∧
      (∀ m g, s.retained.copy = .good m g →
        let u : State :=
          { s with image := m, retained := { s.retained with generation := g } }.closeAll .scrapPower
        t.image = u.image ∧ t.retained.generation = u.retained.generation ∧ t.image.openTable = [] ∧ t.image.settings = m.settings ∧ t.image.tuning = m.tuning ∧
        t.image.slots = m.slots ∧ t.image.assigned = m.assigned ∧ t.image.nextSerial = m.nextSerial ∧
        t.image.ring.oldest = m.ring.oldest ∧ (m.openTable = [] → t.image = m ∧ t.retained.generation = g) ∧
        t.retained.storedGeneration = g ∧ t.retained.recallResult = .recalled) ∧
      EventKind.started ∈ t.link.pending.get 5 ∧
      t.station = Station.reset t.image.settings.calibrationZero ∧
      (∀ p,
        if (s.lines.presses.get p).openLimit ∧ (s.lines.presses.get p).ejectHome then
          t.press p = Press.reset
        else
          t.press p = { Press.reset with state := .fault, cause := some .reset } ∧
          EventKind.pressFault ∈ t.link.pending.get (Source.press p).index) ∧
      (t.historyRaised = true ↔ t.image.settings.historyWarning ≤ t.image.recordCount) ∧
      t.retained.periodic =
        (if t.image.settings.storeInterval = 0 then none else some (t.image.settings.storeInterval * 1000)) ∧
      t.retained.store = s.retained.store ∧ t.retained.copy = s.retained.copy ∧
      t.link.rate = t.image.settings.linkRate ∧ t.zones = s.zones ∧ t.heat = s.heat ∧
      t.alloc = s.alloc ∧ t.snapshots = s.snapshots ∧ t.clock = s.clock

/-- The state right after reset is a never-written part's power-on reset and recall with the plant standing open,
but for the free value counted (log entry 1). -/
def Obligations.TheResetStateIsAFreshPartsRecall : Prop :=
  ∀ s : State, s.pending = [] → s.phase = .unpowered → s.lines = Lines.standing → s.retained.copy = .bad →
    ∃ t u, exec (.powerOnReset false) s = .next t ∧ exec .recallComplete t = .next u ∧
      { u with freeReads := 0 } = State.reset

/-- A warm reset by the RESET line (R207, R138, R157 and the reset tables): as it begins every open record is
closed SCRAP_RESET, after the verdicts and demould summaries of the cycles cut short, and the blocks take their warm
values; as it completes the presses derive their states. It is ignored during the recall and in power-fall handling,
and, by the model's choice, while a start-up waits (log entry 39).
The state a press shows while the reset lasts, IDLE, is the model's choice (log entry 9), and so is the slot number 20
of an allocator with no frame (log entry 13). -/
def Obligations.TheResetLineMakesAWarmReset : Prop :=
  (∀ s : State, s.phase ≠ .running → exec .resetLineLow s = .next s) ∧
  (∀ s : State, s.phase = .running →
    ∃ t, exec .resetLineLow s = .next t ∧ t.phase = .held ∧
      (∀ z, t.zone z =
        { Zone.reset with
          pv := (s.zone z).pv, valid := (s.zone z).valid, latest := (s.zone z).latest,
          starved := (s.zone z).starved }) ∧
      (∀ p, t.pressHeat p = PressHeat.reset) ∧ (∀ p, t.press p = Press.reset) ∧ t.alloc = Alloc.reset ∧
      t.station = Station.reset s.image.settings.calibrationZero ∧
      t.image = (s.cutAllShort.closeAll .scrapReset).image ∧ t.image.openTable = [] ∧
      t.image.nextSerial = s.image.nextSerial ∧ t.image.settings = s.image.settings ∧
      t.image.slots = s.image.slots ∧ t.image.assigned = s.image.assigned ∧
      t.snapshots = s.snapshots ∧ t.clock = s.clock ∧
      t.retained =
        { s.retained with
          generation := (s.cutAllShort.closeAll .scrapReset).retained.generation, resetKind := .warm } ∧
      t.link.receiver = .hunting ∧ t.link.inHand = none ∧ t.link.reply = none ∧
      t.link.noticeWaiting = false ∧ t.link.discarded = 0 ∧ (∀ i, t.link.pending.get i = []) ∧
      (∀ k, k ∈ t.link.mask) ∧ t.link.notice = false ∧
      t.link.transmission.map (fun x => (x.frame, x.rate)) =
        s.link.transmission.map (fun x => (x.frame, x.rate))) ∧
  (∀ s : State, s.phase ≠ .held → exec .resetLineHigh s = .next s) ∧
  ∀ s : State, s.phase = .held →
    ∃ t, exec .resetLineHigh s = .next t ∧ t.phase = .running ∧ t.inputs = s.lines ∧
      (∀ p,
        if (s.lines.presses.get p).openLimit ∧ (s.lines.presses.get p).ejectHome then
          t.press p = Press.reset
        else
          t.press p = { Press.reset with state := .fault, cause := some .reset } ∧
          EventKind.pressFault ∈ t.link.pending.get (Source.press p).index) ∧
      t.image = s.image ∧ (t.historyRaised = true ↔ s.image.settings.historyWarning ≤ s.image.recordCount) ∧
      t.retained =
        { s.retained with
          periodic :=
            if s.image.settings.storeInterval = 0 then none
            else some (s.image.settings.storeInterval * 1000) } ∧
      t.link.rate = s.image.settings.linkRate ∧ t.zones = s.zones ∧ t.heat = s.heat ∧
      t.alloc = s.alloc ∧ t.station = s.station ∧ t.snapshots = s.snapshots ∧ t.clock = s.clock

/-- The supply is lost (R145, R152): only the copy is left, bad if a store was writing it; the values shown meanwhile are
the model's choice (log entries 9, 14 and 22).

POWER_ON_RESET (R153 and the reset tables): every block takes its power-on values, and the recall begins at once, or
waits while PFAIL is high. The link runs at the rate field of a good copy until the recall completes; that it does so
from the reset's start, and that a frame goes on as the recall begins, is the model's reading (log entry 33). In a part that had its
supply, power applied means that the supply was lost before: a store in flight then leaves the copy bad (log entry 14).
The state a press shows until it derives its own, IDLE, is the model's choice (log entry 9), and so is the slot number 20
of the allocator (log entry 13). In a start-up that waits, PFAIL low begins the recall; in power-fall handling it only
makes the start-up due that follows the stop (R152). -/
def Obligations.OnlyTheCopyOutlivesTheSupplyAndPowerOnResets : Prop :=
  (∀ s : State, ∃ t, exec .supplyLost s = .next t ∧ t.phase = .unpowered ∧
     (s.retained.store = none → t.retained.copy = s.retained.copy) ∧
     (s.retained.store ≠ none → t.retained.copy = .bad) ∧
     t.image = Image.default ∧ (∀ z, t.zone z = Zone.reset) ∧ (∀ p, t.press p = Press.reset) ∧
     t.retained.store = none ∧ t.link.inHand = none ∧ t.link.transmission = none ∧
     t.lines = s.lines ∧ t.pfail = s.pfail) ∧
  (∀ (s : State) (pfail : Bool),
     (∀ final fallen, s.phase = .powerFall final fallen → pfail = true) → (s.phase = .waiting → pfail = true) →
     let kept : Prop :=
       s.phase = .unpowered ∨ s.phase = .stopped ∨ s.phase = .waiting ∨ s.retained.store = none
     ∃ t, exec (.powerOnReset pfail) s = .next t ∧ t.pfail = pfail ∧ t.lines = s.lines ∧ t.inputs = s.lines ∧
       t.phase = (if pfail then .waiting else .recalling) ∧
       (∀ z, t.zone z = Zone.reset) ∧ (∀ p, t.pressHeat p = PressHeat.reset) ∧
       (∀ p, t.press p = Press.reset) ∧ t.alloc = Alloc.reset ∧ t.station = Station.reset 0 ∧
       (∀ p, t.snapshots.get p = Snapshot.reset) ∧ t.historyRaised = false ∧
       t.clock = ⟨0, false, 0⟩ ∧ (kept → t.retained.copy = s.retained.copy) ∧
       (¬ kept → t.retained.copy = .bad) ∧ t.retained.store = none ∧
       t.retained.storeAgain = false ∧ t.retained.periodic = none ∧ t.retained.resetKind = .powerOn ∧
       t.link.receiver = .hunting ∧ t.link.inHand = none ∧ t.link.transmission = none ∧
       t.link.reply = none ∧ t.link.noticeWaiting = false ∧ t.link.discarded = 0 ∧
       (∀ i, t.link.pending.get i = []) ∧ (∀ k, k ∈ t.link.mask) ∧ t.link.notice = false ∧
       t.link.rate ∈ [9600, 19200, 57600, 115200] ∧
       ∀ m g, kept → s.retained.copy = .good m g →
         m.settings.linkRate ∈ [9600, 19200, 57600, 115200] → t.link.rate = m.settings.linkRate) ∧
  (∀ s : State, s.phase = .waiting →
     ∃ t, exec (.powerOnReset false) s = .next t ∧
       t = { s with pfail := false, phase := .recalling, link := t.link, freeReads := t.freeReads } ∧
       t.link = { s.link with rate := t.link.rate } ∧
       t.link.rate ∈ [9600, 19200, 57600, 115200] ∧
       ∀ m g, s.retained.copy = .good m g → m.settings.linkRate ∈ [9600, 19200, 57600, 115200] →
         t.link.rate = m.settings.linkRate) ∧
  ∀ (s : State) (final fallen : Bool), s.phase = .powerFall final fallen →
    exec (.powerOnReset false) s = .next { s with pfail := false, phase := .powerFall final true }

/-! ## Part records and the history (chapter 6) -/

/-- READ_HISTORY (R134): a count of 0 or above 4 or a start above 1023 is refused; otherwise the uncollected count and
the records there are at the indices asked for, oldest first. READ_OPEN (R137): the open record with the serial, its
marks and its place (1 QUEUED at the head, 2 QUEUED second, 3 BOUND). Neither changes anything. -/
def Obligations.ReadHistoryAndReadOpenReplyRecords : Prop :=
  (∀ (s : State) (tag : Byte) (start : Half) (count : Byte), s.holds 0x30 tag (halfBytes start ++ [count]) →
     (count.toNat = 0 ∨ 4 < count.toNat ∨ 1023 < start.toNat →
       exec (.readHistory tag start count) s =
         .next (s.repliedTo 0x30 tag (halfBytes start ++ [count]) .badValue [])) ∧
     ∀ rs : List Record, 1 ≤ count.toNat → count.toNat ≤ 4 → start.toNat ≤ 1023 →
       rs.length = min count.toNat (s.image.ring.count - start.toNat) →
       (∀ k : Nat, k < rs.length →
         rs[k]? = readPlace ((s.image.ring.oldest + (start.toNat + k)) % 1024) s.image.ring.places) →
       exec (.readHistory tag start count) s = .next
         (s.repliedTo 0x30 tag (halfBytes start ++ [count]) .ok
           (be16 s.image.ring.count ++ [BitVec.ofNat 8 rs.length] ++ rs.flatMap Record.bytes))) ∧
  (∀ (s : State) (tag : Byte) (serial : Word), s.holds 0x33 tag (wordBytes serial) →
     ((∀ o ∈ s.image.openTable, o.record.serial ≠ serial.toNat) →
       exec (.readOpen tag serial) s = .next (s.repliedTo 0x33 tag (wordBytes serial) .notFound [])) ∧
     ∀ o : OpenRecord, s.image.openTable.find? (fun q => decide (q.record.serial = serial.toNat)) = some o →
       ∃ place : Byte,
         ((∃ p k rest, (s.press p).tickets = k :: rest ∧ k.serial = serial.toNat) → place = 1) ∧
         ((∃ p j k rest, (s.press p).tickets = j :: k :: rest ∧ k.serial = serial.toNat) →
           (∀ p j rest, (s.press p).tickets = j :: rest → j.serial ≠ serial.toNat) → place = 2) ∧
         ((∃ p b, (s.press p).bound = some b ∧ b.serial = serial.toNat) →
           (∀ p, ∀ k ∈ (s.press p).tickets, k.serial ≠ serial.toNat) → place = 3) ∧
         exec (.readOpen tag serial) s = .next
           (s.repliedTo 0x33 tag (wordBytes serial) .ok
             (o.record.bytes ++ [if o.aborted then 1 else 0, if o.expired then 1 else 0, place])))

/-- COLLECT (R135, R133): an n of 0 or above U is refused; otherwise P advances by n modulo 1024, U falls by n, and the
HISTORY_HIGH test is made. ANNOTATE (R136): its checks in order; taken, the one uncollected record with the serial gains
the annotation and no other field of any record changes. -/
def Obligations.CollectAndAnnotateChangeTheRing : Prop :=
  (∀ (s : State) (tag : Byte) (n : Half), s.holds 0x31 tag (halfBytes n) →
     (n.toNat = 0 ∨ s.image.ring.count < n.toNat →
       exec (.collect tag n) s = .next (s.repliedTo 0x31 tag (halfBytes n) .badValue [])) ∧
     (0 < n.toNat → n.toNat ≤ s.image.ring.count →
       let high : Bool :=
         decide (s.image.settings.historyWarning ≤ s.image.openTable.length + (s.image.ring.count - n.toNat))
       let t : State :=
         { s with
           image :=
             { s.image with
               ring :=
                 { s.image.ring with
                   oldest := (s.image.ring.oldest + n.toNat) % 1024,
                   count := s.image.ring.count - n.toNat } },
           historyRaised := high,
           retained := { s.retained with generation := (s.retained.generation + 1) % 4294967296 } }
       exec (.collect tag n) s = .next
         ((if high = true ∧ s.historyRaised = false then t.raise .cell .historyHigh else t).repliedTo 0x31 tag
           (halfBytes n) .ok []))) ∧
  (∀ (s : State) (tag : Byte) (serial : Word) (result inspector : Byte),
     let body := wordBytes serial ++ [result, inspector]
     s.holds 0x32 tag body →
     let isOpen : Prop := ∃ o ∈ s.image.openTable, o.record.serial = serial.toNat
     (result ≠ 1 ∧ result ≠ 2 →
       exec (.annotate tag serial result inspector) s = .next (s.repliedTo 0x32 tag body .badValue [])) ∧
     (result = 1 ∨ result = 2 → isOpen →
       exec (.annotate tag serial result inspector) s = .next (s.repliedTo 0x32 tag body .wrongState [])) ∧
     (result = 1 ∨ result = 2 → ¬ isOpen →
       ((∀ k q, s.image.ring.record k = some q → q.serial ≠ serial.toNat) →
         exec (.annotate tag serial result inspector) s = .next (s.repliedTo 0x32 tag body .notFound [])) ∧
       ∀ k q, s.image.ring.record k = some q → q.serial = serial.toNat →
         (∀ j r, j < k → s.image.ring.record j = some r → r.serial ≠ serial.toNat) →
         (q.annotation ≠ none →
           exec (.annotate tag serial result inspector) s = .next (s.repliedTo 0x32 tag body .alreadySet [])) ∧
         (q.annotation = none →
           ∃ ring : Ring,
             ring.oldest = s.image.ring.oldest ∧ ring.count = s.image.ring.count ∧
             (∀ j, s.image.ring.count ≤ 1024 → ring.record j =
               if j = k then some { q with annotation := some ⟨decide (result = 1), inspector⟩ }
               else s.image.ring.record j) ∧
             exec (.annotate tag serial result inspector) s = .next
               ({ s with
                   image := { s.image with ring := ring },
                   retained :=
                     { s.retained with
                       generation := (s.retained.generation + 1) % 4294967296 } }.repliedTo 0x32 tag body .ok
                 []))))

/-- The closing procedure (R128, R130, R131): the record with this serial takes its disposition, cause and closing
time, becomes the youngest uncollected record, leaves the open table, and moves its press's one counter; the
other uncollected records stay as they were, and it is one change. -/
def Obligations.ClosingMovesARecordIntoTheRing : Prop :=
  ∀ (s : State) (o : OpenRecord) (d : Disposition) (cause : Option PressFault),
    s.image.openTable.find? (fun q => decide (q.record.serial = o.record.serial)) = some o →
    s.image.ring.count < 1024 →
    ∃ (ring : Ring) (counters : Tab Counters 4),
      ring.oldest = s.image.ring.oldest ∧ ring.count = s.image.ring.count + 1 ∧
      ring.record s.image.ring.count =
        some { o.record with
          disposition := some d, cause := cause,
          closingTime := if s.clock.set then some s.clock.value else none } ∧
      (∀ k, k < s.image.ring.count → ring.record k = s.image.ring.record k) ∧
      (∀ p, p ≠ o.record.press → counters.get p = s.image.counters.get p) ∧
      counters.get o.record.press =
        (let c := s.image.counters.get o.record.press
        let up (x : Counter) : Counter := if x.n < 65535 then ⟨x.n + 1, x.saturated⟩ else ⟨x.n, true⟩
        if d = .rejectLight ∨ d = .rejectHeavy then { c with rejects := up c.rejects }
        else if d = .suspect then { c with suspect := up c.suspect }
        else if d = .good then { c with good := up c.good }
        else { c with scrap := up c.scrap }) ∧
      s.closeRecord o.record.serial d cause =
        { s with
          image :=
            { s.image with
              openTable := s.image.openTable.filter fun q => !decide (q.record.serial = o.record.serial),
              ring := ring,
              counters := counters },
          retained := { s.retained with generation := (s.retained.generation + 1) % 4294967296 } }

/-! ## Charge weighing (chapter 3) -/

/-- POST_ORDER (R52) appends an order, unless the press is none or the queue holds 8; CANCEL_ORDER (R63) withdraws
the first order with the tag, from the queue, or else the current order. -/
def Obligations.OrdersArePostedAndCancelled : Prop :=
  (∀ (s : State) (tag orderTag press : Byte), s.holds 0x20 tag [orderTag, press] →
    (3 < press.toNat →
      exec (.postOrder tag orderTag press) s =
        .next (s.repliedTo 0x20 tag [orderTag, press] .badValue [])) ∧
    ∀ p : Fin 4, press.toNat = p.val →
      (8 ≤ s.station.queue.length →
        exec (.postOrder tag orderTag press) s =
          .next (s.repliedTo 0x20 tag [orderTag, press] .full [])) ∧
      (s.station.queue.length < 8 →
        exec (.postOrder tag orderTag press) s = .next
          ({ s with
              station :=
                { s.station with
                  queue := s.station.queue ++ [Order.mk orderTag p] } }.repliedTo 0x20 tag [orderTag, press] .ok
            []))) ∧
  ∀ (s : State) (tag orderTag : Byte), s.holds 0x21 tag [orderTag] →
    (∀ (before after : List Order) (o : Order), s.station.queue = before ++ o :: after → o.tag = orderTag →
      (∀ q ∈ before, q.tag ≠ orderTag) →
      exec (.cancelOrder tag orderTag) s = .next
        ({ s with station := { s.station with queue := before ++ after } }.repliedTo 0x21 tag [orderTag] .ok
          [])) ∧
    ((∀ q ∈ s.station.queue, q.tag ≠ orderTag) →
      (∀ o, s.station.current = some o → o.tag = orderTag →
        exec (.cancelOrder tag orderTag) s = .next
          ({ s with
              station :=
                { s.station with
                  current := none,
                  settle := none,
                  state :=
                    if s.station.state = StationState.settling then .removal
                    else .empty } }.repliedTo 0x21 tag [orderTag] .ok [])) ∧
      ((∀ o, s.station.current = some o → o.tag ≠ orderTag) →
        exec (.cancelOrder tag orderTag) s =
          .next (s.repliedTo 0x21 tag [orderTag]
            (if orderTag.toNat ∈ s.station.captured then .tooLate else .notFound) [])))

/-- ZERO_SCALE (R49, R47): its checks in order; taken, the mean of the 8 net counts joins the zero offset, the
window and the obligation's counts are cleared, the station is EMPTY, and ZERO_TAKEN is raised. -/
def Obligations.ZeroScaleTakesANewZero : Prop :=
  ∀ (s : State) (tag : Byte), s.holds 0x22 tag [] →
    let w := s.station
    let busy : Prop := w.state = .waiting ∨ w.state = .settling ∨ w.state = .removal
    let steady : Prop :=
      8 ≤ w.window.length ∧ w.averages.length = 25 ∧
        ∀ a ∈ w.averages, ∀ b ∈ w.averages, a - b ≤ (s.image.settings.stabilityBand : Int)
    (busy → exec (.zeroScale tag) s = .next (s.repliedTo 0x22 tag [] .wrongState [])) ∧
    (¬ busy → ¬ steady → exec (.zeroScale tag) s = .next (s.repliedTo 0x22 tag [] .notReady [])) ∧
    ∀ avg, ¬ busy → steady → w.averages.getLast? = some avg →
      ((s.image.settings.zeroRange : Int) < avg ∨ avg < -(s.image.settings.zeroRange : Int) →
        exec (.zeroScale tag) s = .next (s.repliedTo 0x22 tag [] .badValue [])) ∧
      (avg ≤ (s.image.settings.zeroRange : Int) → -(s.image.settings.zeroRange : Int) ≤ avg →
        exec (.zeroScale tag) s = .next
          (({ s with
              station :=
                { w with
                  offset := max (-8388608) (min 8388607 (w.offset + (w.window.map Entry.net).sum / 8)),
                  window := [], averages := [], stable := false, chargesSinceZero := 0,
                  postponements := 0, zeroDue := false,
                  state := .empty } }.raise .weigh .zeroTaken).repliedTo 0x22 tag [] .ok []))

/-- A good sample (R43 to R45): its weight is the net count by the gain over 65536, rounded to the nearest and held
at the capacity; its entry joins the window of 8, whose average, once there are 8, joins the held averages. In FAULT
nothing else happens (R65); in WAITING the load test is made (R55), and in REMOVAL the removal test (R62). -/
def Obligations.AGoodSampleEntersTheWindow : Prop :=
  ∀ (s : State) (count : Count), s.phase = .running →
    let net := count.toInt - s.station.offset
    let weight := (net * (s.image.settings.gain : Int) + 32768) / 65536
    let top : Int := s.image.settings.capacity
    let entry : Entry := ⟨net, max (-top) (min top weight), decide (top < weight)⟩
    let window := (s.station.window ++ [entry]).drop (s.station.window.length - 7)
    let average := (window.map Entry.weight).sum / 8
    let averages :=
      if window.length = 8 then (s.station.averages ++ [average]).drop (s.station.averages.length - 24)
      else s.station.averages
    let steady : Bool :=
      decide (window.length = 8) && decide (averages.length = 25) &&
        averages.all fun a => averages.all fun b => decide (a - b ≤ (s.image.settings.stabilityBand : Int))
    let station := { s.station with window := window, averages := averages, stable := steady }
    s.station.window.length ≤ 8 → s.station.averages.length ≤ 25 →
    (s.station.state = .fault → exec (.goodSample count) s = .next { s with station := station }.pump) ∧
    (s.station.state = .waiting →
      exec (.goodSample count) s = .next
        { s with
          station :=
            if window.length = 8 ∧ (s.image.settings.loadThreshold : Int) ≤ average then
              { station with
                state := .settling, settle := some (s.image.settings.settleTimeout * 1000) }
            else station }.pump) ∧
    (s.station.state = .removal →
      exec (.goodSample count) s = .next
        { s with
          station :=
            if steady = true ∧ average < (s.image.settings.loadThreshold : Int) then
              { station with state := .empty }
            else station }.pump) ∧
    (s.station.state = .settling → window.length = 8 → average < (s.image.settings.loadThreshold : Int) →
      exec (.goodSample count) s =
        .next { s with station := { station with state := .waiting, settle := none } }.pump) ∧
    (s.station.state = .settling → window.length = 8 → (s.image.settings.loadThreshold : Int) ≤ average →
      steady = false →
      exec (.goodSample count) s = .next { s with station := station }.pump)

/-- A sample in UNZEROED or EMPTY, once it is in the window (R47, R48, R51, R53): the automatic zero where it is
due, then in EMPTY the take check, which takes the oldest eligible order. -/
def Obligations.AnEmptyScaleZeroesItselfAndTakesAnOrder : Prop :=
  ∀ (s : State) (count : Count) (u : State), s.phase = .running → u = s.windowed count →
    let zeroed (range : Nat) : State :=
      if u.station.stableNow s.image.settings.stabilityBand = true ∧
          ∀ a, u.station.averages.getLast? = some a → a ≤ (range : Int) ∧ -(range : Int) ≤ a then
        { u with
          station :=
            { u.station with
              offset :=
                max (-8388608) (min 8388607 (u.station.offset + (u.station.window.map Entry.net).sum / 8)),
              window := [], averages := [], stable := false, chargesSinceZero := 0, postponements := 0,
              zeroDue := false, state := .empty } }.raise .weigh .zeroTaken
      else u
    (s.station.state = .unzeroed →
      exec (.goodSample count) s = .next (zeroed s.image.settings.zeroRange).pump) ∧
    (s.station.state = .empty →
      let v := if s.station.zeroDue then zeroed s.image.settings.autoZeroBand else u
      let eligible (o : Order) : Prop :=
        (s.pressHeat o.press).mode = .run ∧ (s.press o.press).tickets.length < 2
      let room : Prop :=
        (v.station.zeroDue = true → v.station.postponements < 4) ∧
          s.image.openTable.length + s.image.ring.count < 1024 ∧ s.image.nextSerial ≠ none
      (¬ room ∨ (∀ o ∈ s.station.queue, ¬ eligible o) → exec (.goodSample count) s = .next v.pump) ∧
      ∀ (before after : List Order) (o : Order), room → s.station.queue = before ++ o :: after → eligible o →
        (∀ q ∈ before, ¬ eligible q) →
        exec (.goodSample count) s = .next
          { v with
            station :=
              { v.station with
                queue := before ++ after, current := some o, state := .waiting,
                postponements :=
                  if v.station.zeroDue then v.station.postponements + 1
                  else v.station.postponements } }.pump)

/-- A capture (R58 to R61, R50, R123 to R125, R133): a steady charge in SETTLING takes the next serial; within tolerance
and with no OVER sample it becomes an open record and a ticket, otherwise a record closed at once, the youngest in the
ring, counted as a reject of its press; then the station is in REMOVAL, its zero obligation counted. It raises
CHARGE_ACCEPTED or CHARGE_REJECTED, ZERO_DUE when zero-due becomes set, HISTORY_HIGH when the records reach the warning,
and nothing else. -/
def Obligations.ASteadyChargeIsCaptured : Prop :=
  ∀ (s u : State) (count : Count) (o : Order) (slot : Fin 16) (r : Recipe) (serial : Nat) (w : Int),
    s.phase = .running → s.station.state = .settling → u = s.windowed count →
    u.station.stableNow s.image.settings.stabilityBand = true → u.station.averages.getLast? = some w →
    (s.image.settings.loadThreshold : Int) ≤ w → s.station.current = some o →
    s.image.assigned.get o.press = some slot → (s.image.slots.get slot).recipe = some r →
    s.image.nextSerial = some serial →
    let deviation : Int :=
      max (-1000) (min 1000 ((2 * 1000 * (w - r.nominal) + r.nominal) / (2 * r.nominal)))
    let q : Record :=
      { serial := serial, press := o.press, slot := slot, revision := r.revision, tag := o.tag, weight := w,
        deviation := deviation, weighTime := if s.clock.set then some s.clock.value else none,
        loadTime := none, cure := none, demould := none, disposition := none, cause := none,
        closingTime := none, annotation := none }
    let next := if serial < 4294967295 then some (serial + 1) else none
    let good : Prop :=
      ((w - r.nominal).natAbs * 1000 ≤ r.tolerance * r.nominal) ∧ ∀ e ∈ u.station.window, e.isOver = false
    ∃ t, exec (.goodSample count) s = .next t ∧
      t.station.state = .removal ∧ t.station.current = none ∧ t.station.settle = none ∧
      t.station.queue = s.station.queue ∧ t.station.window = u.station.window ∧
      t.station.averages = u.station.averages ∧ t.station.offset = s.station.offset ∧
      t.station.postponements = s.station.postponements ∧ t.station.orderDrops = s.station.orderDrops ∧
      (∀ n, n ∈ t.station.captured ↔ n < 256 ∧ (n = o.tag.toNat ∨ n ∈ s.station.captured)) ∧
      t.station.chargesSinceZero = min 255 (s.station.chargesSinceZero + 1) ∧
      t.station.zeroDue =
        (s.station.zeroDue || decide (s.image.settings.zeroInterval ≤ min 255 (s.station.chargesSinceZero + 1))) ∧
      t.image.nextSerial = next ∧
      t.retained = { s.retained with generation := (s.retained.generation + 1) % 4294967296 } ∧
      (good →
        t.image.openTable = s.image.openTable ++ [OpenRecord.mk q false false] ∧ t.image.ring = s.image.ring ∧
        t.image.counters = s.image.counters ∧
        t.press o.press =
          { s.press o.press with
            tickets := (s.press o.press).tickets ++ [Ticket.mk serial o.tag (r.potLife * 1000)] } ∧
        (∀ p, p ≠ o.press → t.press p = s.press p)) ∧
      (¬ good →
        t.image.openTable = s.image.openTable ∧ t.presses = s.presses ∧
        t.image.ring.oldest = s.image.ring.oldest ∧ t.image.ring.count = s.image.ring.count + 1 ∧
        t.image.ring.record s.image.ring.count =
          some { q with
            disposition := some (if w < r.nominal then .rejectLight else .rejectHeavy),
            closingTime := if s.clock.set then some s.clock.value else none } ∧
        (s.image.ring.count < 1024 →
          ∀ k, k < s.image.ring.count → t.image.ring.record k = s.image.ring.record k) ∧
        t.image.counters =
          s.image.counters.set o.press
            (let c := s.image.counters.get o.press
            { c with
              rejects :=
                if c.rejects.n < 65535 then ⟨c.rejects.n + 1, c.rejects.saturated⟩
                else ⟨c.rejects.n, true⟩ })) ∧
      (t.historyRaised = true ↔
        s.image.settings.historyWarning ≤ s.image.openTable.length + s.image.ring.count + 1) ∧
      (∀ i k, k ∈ t.link.pending.get i ↔
        k ∈ s.link.pending.get i ∨ (i = 4 ∧ k = .chargeAccepted ∧ good) ∨ (i = 4 ∧ k = .chargeRejected ∧ ¬ good) ∨
          (i = 4 ∧ k = .zeroDue ∧ t.station.zeroDue = true ∧ s.station.zeroDue = false) ∨
          (i = 5 ∧ k = .historyHigh ∧ t.historyRaised = true ∧ s.historyRaised = false)) ∧
      t.zones = s.zones ∧ t.heat = s.heat ∧ t.clock = s.clock ∧ t.image.settings = s.image.settings ∧
      t.image.slots = s.image.slots ∧ t.image.assigned = s.image.assigned

/-- A faulted sample (R46, R64) and the settle timer's expiry (R57). -/
def Obligations.AFaultedSampleStopsTheStation : Prop :=
  ∀ s : State, s.phase = .running →
    (let w := s.station
     let queue :=
       match w.current with
       | none => w.queue
       | some o => if w.queue.length < 8 then o :: w.queue else o :: w.queue.take 7
     let t : State :=
       { s with
         station :=
           { w with
             state := .fault, window := [], averages := [], stable := false, settle := none, current := none,
             queue := queue,
             orderDrops :=
               if w.current ≠ none ∧ 8 ≤ w.queue.length then min 65535 (w.orderDrops + 1)
               else w.orderDrops } }
     exec .faultedSample s =
       .next (if w.state = .fault then t else t.raise .weigh .scaleFault).pump) ∧
    (s.station.settle ≠ none →
      exec .settleTimeout s =
        .next ({ s with station := { s.station with settle := none } }.raise .weigh .settleTimeout).pump) ∧
    (s.station.settle = none → exec .settleTimeout s = .next s.pump)

/-! ## The press cycle and the cure (chapters 4 and 5) -/

/-- LOAD (R77, R78, R101, R102): its checks in order; taken, the head ticket becomes the bound part with its timer
running, the adjusted target is fixed and the cure begins afresh, and the load time is written when the clock is
SET. That LOAD is a change of the image only then is the model's reading (log entry 11). -/
def Obligations.LoadBindsTheHeadTicket : Prop :=
  ∀ (s : State) (tag press : Byte) (serial : Word),
    let body := press :: wordBytes serial
    s.holds 0x28 tag body →
    let refused (st : Status) : Prop := exec (.load tag press serial) s = .next (s.repliedTo 0x28 tag body st [])
    (3 < press.toNat → refused .badValue) ∧
    ∀ p : Fin 4, press.toNat = p.val →
      ((s.press p).state ≠ .idle ∨ (s.pressHeat p).mode ≠ .run → refused .wrongState) ∧
      ((s.press p).state = .idle → (s.pressHeat p).mode = .run →
        ((∀ k ∈ (s.press p).tickets, k.serial ≠ serial.toNat) → refused .notFound) ∧
        (∀ head rest, (s.press p).tickets = head :: rest → head.serial ≠ serial.toNat →
          (∃ k ∈ rest, k.serial = serial.toNat) → refused .wrongTicket) ∧
        ∀ (head : Ticket) (rest : List Ticket) (o : OpenRecord) (r : Recipe),
          (s.press p).tickets = head :: rest → head.serial = serial.toNat →
          s.image.openTable.find? (fun q => decide (q.record.serial = serial.toNat)) = some o →
          s.recipeOf p = some r →
          exec (.load tag press serial) s = .next
            ({ s with
                presses :=
                  s.presses.set p
                    { s.press p with
                      state := .loaded, stroke := none, valves := ⟨false, false, false⟩, tickets := rest,
                      bound := some ⟨head.serial, head.tag, some head.pot⟩,
                      cure :=
                        { credit := 0,
                          target :=
                            (r.cureTarget * 16 * o.record.weight.toNat + r.nominal / 2) / r.nominal,
                          wall := 0, frozen := 0, coldMin := none, coldMax := none, loss := false,
                          done := false, limit := false, verdict := none } },
                image :=
                  if s.clock.set then
                    { s.image with
                      openTable :=
                        s.image.openTable.map fun (q : OpenRecord) =>
                          if q.record.serial = serial.toNat then
                            { q with record := { q.record with loadTime := some s.clock.value } }
                          else q }
                  else s.image,
                retained :=
                  { s.retained with
                    generation :=
                      if s.clock.set then (s.retained.generation + 1) % 4294967296
                      else s.retained.generation } }.repliedTo 0x28 tag body .ok []))

/-- CLOSE (R79, R80): its checks in order; taken, the press is in CLOSING with its valve and its timer on, the pot
life stopped and the cycles counter grown, and the press then meets whatever condition already holds (R71, R82). -/
def Obligations.CloseStartsTheCycle : Prop :=
  ∀ (s : State) (tag press : Byte), s.holds 0x29 tag [press] →
    let refused (st : Status) : Prop := exec (.close tag press) s = .next (s.repliedTo 0x29 tag [press] st [])
    (3 < press.toNat → refused .badValue) ∧
    ∀ p : Fin 4, press.toNat = p.val →
      ((s.press p).state ≠ .loaded → refused .wrongState) ∧
      ((s.press p).state = .loaded →
        (s.inputs.guardOk = false → refused .guardOpen) ∧
        (s.inputs.guardOk = true → s.heatReady p = false → refused .notReady) ∧
        (s.inputs.guardOk = true → s.heatReady p = true → (s.press p).minOpen ≠ none → refused .tooSoon) ∧
        (s.inputs.guardOk = true → s.heatReady p = true → (s.press p).minOpen = none →
          ∀ r, s.recipeOf p = some r →
            let c := (s.image.counters.get p).cycles
            let c' : Counter := if c.n < 65535 then ⟨c.n + 1, c.saturated⟩ else ⟨c.n, true⟩
            let u : State :=
              { s with
                presses :=
                  s.presses.set p
                    { s.press p with
                      state := .closing, stroke := none, valves := ⟨true, false, false⟩,
                      closeTimer := some (r.closeTimeout * 1000),
                      bound := (s.press p).bound.map fun b => { b with pot := none } },
                image :=
                  { s.image with
                    counters := s.image.counters.set p { s.image.counters.get p with cycles := c' } },
                retained :=
                  { s.retained with
                    generation :=
                      if c' = c then s.retained.generation
                      else (s.retained.generation + 1) % 4294967296 } }
            exec (.close tag press) s =
              .next ((oneChange s (u.settled p)).repliedTo 0x29 tag [press] .ok [])))

/-- Starting to open (R87, R114): from CURING the verdict is fixed and written and the open mark set; from CLOSING
neither. OPEN (R85) starts it from CURING once the minimum cure has passed, ABORT (R88) from CURING and from
CLOSING, with the aborted mark; the press then meets whatever condition already holds (R71). In every other state, with
or without a part and a recipe, they are refused (ABORT in LOADED closes the part at once). -/
def Obligations.OpenAndAbortStartThePressOpening : Prop :=
  (∀ (s : State) (tag press : Byte) (p : Fin 4), press.toNat = p.val →
    (s.holds 0x2A tag [press] → (s.press p).state ≠ .curing →
      exec (.openPress tag press) s = .next (s.repliedTo 0x2A tag [press] .wrongState [])) ∧
    (s.holds 0x2B tag [press] → (s.press p).state ∈ [PressState.idle, .opening, .ejecting, .unload, .fault] →
      exec (.abort tag press) s = .next (s.repliedTo 0x2B tag [press] .wrongState []))) ∧
  ∀ (s : State) (press : Byte) (p : Fin 4) (r : Recipe) (b : Bound), press.toNat = p.val →
    s.recipeOf p = some r → (s.press p).bound = some b →
    let x := s.press p
    let verdict : Verdict :=
      if x.cure.credit < x.cure.target then .under
      else if x.cure.target * r.overcure < x.cure.credit * 16 then .over_
      else .normal
    let curing := decide (x.state = .curing)
    let started (aborted : Bool) : State :=
      { s with
        presses :=
          s.presses.set p
            { x with
              state := .opening, stroke := none, valves := ⟨false, true, false⟩,
              openTimer := some (r.openTimeout * 1000), closeTimer := none,
              cure := { x.cure with verdict := if curing then some verdict else x.cure.verdict } },
        heat :=
          s.heat.modify p fun h =>
            { h with profile := { h.profile with openMark := h.profile.openMark || curing } },
        image :=
          { s.image with
            openTable :=
              s.image.openTable.map fun (o : OpenRecord) =>
                if o.record.serial = b.serial then
                  { o with
                    aborted := o.aborted || aborted,
                    record :=
                      { o.record with
                        cure :=
                          if curing then
                            o.record.cure.map fun (u : CureSummary) => { u with verdict := some verdict }
                          else o.record.cure } }
                else o },
        retained := { s.retained with generation := (s.retained.generation + 1) % 4294967296 } }
    (∀ tag, s.holds 0x2A tag [press] →
      (x.state = .curing → x.cure.wall < r.minCure →
        exec (.openPress tag press) s = .next (s.repliedTo 0x2A tag [press] .tooSoon [])) ∧
      (x.state = .curing → r.minCure ≤ x.cure.wall →
        exec (.openPress tag press) s =
          .next ((oneChange s ((started false).settled p)).repliedTo 0x2A tag [press] .ok []))) ∧
    ∀ tag, s.holds 0x2B tag [press] → x.state = .closing ∨ x.state = .curing →
      exec (.abort tag press) s =
        .next ((oneChange s ((started true).settled p)).repliedTo 0x2B tag [press] .ok [])

/-- The closings a request brings: ABORT in LOADED closes SCRAP_ABORTED (R88), RELEASE in UNLOAD by the precedence of
R130 (R94); the press is IDLE with no part bound. CLEAR_FAULT returns a safe press from FAULT to IDLE (R97). A
press above 3 is refused by each of them, by OPEN and by ABORT. -/
def Obligations.ReleaseAbortAndClearFaultReturnToIdle : Prop :=
  ∀ (s : State) (tag press : Byte),
    (3 < press.toNat →
      (s.holds 0x2A tag [press] →
        exec (.openPress tag press) s = .next (s.repliedTo 0x2A tag [press] .badValue [])) ∧
      (s.holds 0x2B tag [press] →
        exec (.abort tag press) s = .next (s.repliedTo 0x2B tag [press] .badValue [])) ∧
      (s.holds 0x2C tag [press] →
        exec (.release tag press) s = .next (s.repliedTo 0x2C tag [press] .badValue [])) ∧
      (s.holds 0x2D tag [press] →
        exec (.clearFault tag press) s = .next (s.repliedTo 0x2D tag [press] .badValue []))) ∧
    ∀ p : Fin 4, press.toNat = p.val →
      let emptied (t : State) : State :=
        { t with
          presses :=
            t.presses.modify p fun x =>
              { x with state := .idle, stroke := none, valves := ⟨false, false, false⟩, bound := none } }
      (∀ b, s.holds 0x2B tag [press] → (s.press p).state = .loaded → (s.press p).bound = some b →
        exec (.abort tag press) s = .next
          ((emptied (s.closeRecord b.serial .scrapAborted none)).repliedTo 0x2B tag [press] .ok [])) ∧
      (s.holds 0x2C tag [press] →
        ((s.press p).state ≠ .unload →
          exec (.release tag press) s = .next (s.repliedTo 0x2C tag [press] .wrongState [])) ∧
        ∀ b o, (s.press p).state = .unload → (s.press p).bound = some b →
          s.image.openTable.find? (fun q => decide (q.record.serial = b.serial)) = some o →
          let doubtful : Prop :=
            ∃ u, o.record.cure = some u ∧
              (u.verdict = some .under ∨ u.verdict = some .over_ ∨ 0 < u.frozen ∨ 0 < u.shortfall ∨ 0 < u.dips)
          ∀ d : Disposition,
            (o.aborted = true → d = .scrapAborted) →
            (o.aborted = false → o.expired = true → d = .scrapExpired) →
            (o.aborted = false → o.expired = false → doubtful → d = .suspect) →
            (o.aborted = false → o.expired = false → ¬ doubtful → d = .good) →
            exec (.release tag press) s = .next
              ((emptied (s.closeRecord b.serial d none)).repliedTo 0x2C tag [press] .ok [])) ∧
      (s.holds 0x2D tag [press] →
        let i := s.inputs.presses.get p
        ((s.press p).state ≠ .fault →
          exec (.clearFault tag press) s = .next (s.repliedTo 0x2D tag [press] .wrongState [])) ∧
        ((s.press p).state = .fault → ¬ (i.openLimit = true ∧ i.ejectHome = true) →
          exec (.clearFault tag press) s = .next (s.repliedTo 0x2D tag [press] .notSafe [])) ∧
        ((s.press p).state = .fault → i.openLimit = true → i.ejectHome = true →
          exec (.clearFault tag press) s = .next
            ({ s with
                presses :=
                  s.presses.set p
                    { s.press p with
                      state := .idle, stroke := none, valves := ⟨false, false, false⟩, cause := none,
                      minOpen := none } }.repliedTo 0x2D tag [press] .ok [])))

/-- Pot life (R75, R76): a queued ticket leaves the queue wherever it stands and its record is closed
SCRAP_EXPIRED; a bound part in LOADED gets the expired mark and stays bound; TICKET_EXPIRED is raised by both. A
timer that does not run does nothing. -/
def Obligations.PotLifeExpiresQueuedTicketsAndMarksBoundParts : Prop :=
  ∀ (s : State) (p : Fin 4), s.phase = .running →
    (∀ serial : Word,
      ((∃ k ∈ (s.press p).tickets, k.serial = serial.toNat) →
        exec (.ticketPotLifeExpiry p serial) s = .next
          (((s.closeRecord serial.toNat .scrapExpired none).modPress p fun x =>
            { x with
              tickets := x.tickets.filter fun k => !decide (k.serial = serial.toNat) }).raise (.press p)
            .ticketExpired).pump) ∧
      ((∀ k ∈ (s.press p).tickets, k.serial ≠ serial.toNat) →
        exec (.ticketPotLifeExpiry p serial) s = .next s.pump)) ∧
    ((s.press p).state ≠ .loaded → exec (.boundPotLifeExpiry p) s = .next s.pump) ∧
    ∀ b, (s.press p).state = .loaded → (s.press p).bound = some b →
      (b.pot = none → exec (.boundPotLifeExpiry p) s = .next s.pump) ∧
      (b.pot ≠ none →
        exec (.boundPotLifeExpiry p) s = .next
          ({ s with
              presses := s.presses.set p { s.press p with bound := some { b with pot := none } },
              image :=
                { s.image with
                  openTable :=
                    s.image.openTable.map fun (o : OpenRecord) =>
                      if o.record.serial = b.serial then { o with expired := true } else o },
              retained :=
                { s.retained with
                  generation := (s.retained.generation + 1) % 4294967296 } }.raise (.press p)
            .ticketExpired).pump)

/-- Entering FAULT (R96): valves off, the three cycle timers and the stroke gone, the cause held; out of CURING the
open mark is set and the verdict fixed from the credit (R114), in the press's figures and in the record's cure summary;
a bound part's record is closed SCRAP_FAULT with the cause, every other field as it stood, and the press left empty;
PRESS_FAULT is raised. Tickets, the minimum-open timer, the heat mode and the other presses stay. -/
def Obligations.EnteringFaultMakesThePressSafe : Prop :=
  ∀ (s : State) (p : Fin 4) (c : PressFault), ∃ t, s.enterFault p c = t ∧
    let verdict (r : Recipe) : Verdict :=
      if (s.press p).cure.credit < (s.press p).cure.target then .under
      else if (s.press p).cure.target * r.overcure < (s.press p).cure.credit * 16 then .over_
      else .normal
    (t.press p).state = .fault ∧ (t.press p).cause = some c ∧ (t.press p).valves = ⟨false, false, false⟩ ∧
    (t.press p).stroke = none ∧ (t.press p).closeTimer = none ∧ (t.press p).openTimer = none ∧
    (t.press p).strokeTimer = none ∧ (t.press p).bound = none ∧
    (t.press p).tickets = (s.press p).tickets ∧ (t.press p).minOpen = (s.press p).minOpen ∧
    ((s.press p).state ≠ .curing → (t.press p).cure = (s.press p).cure ∧ t.heat = s.heat) ∧
    ((s.press p).state = .curing →
      (t.press p).cure = { (s.press p).cure with verdict := (t.press p).cure.verdict } ∧
      (∀ r, s.recipeOf p = some r → (t.press p).cure.verdict = some (verdict r)) ∧
      (t.press p).cure.verdict.isSome ∧ (t.pressHeat p).profile.openMark = true ∧
      (t.pressHeat p).mode = (s.pressHeat p).mode) ∧
    (∀ q, q ≠ p → t.press q = s.press q ∧ t.pressHeat q = s.pressHeat q) ∧
    EventKind.pressFault ∈ t.link.pending.get (Source.press p).index ∧
    (∀ b o, (s.press p).bound = some b →
      s.image.openTable.find? (fun q => decide (q.record.serial = b.serial)) = some o →
      s.image.ring.count < 1024 →
      (∀ q ∈ t.image.openTable, q.record.serial ≠ b.serial) ∧
      t.image.ring.count = s.image.ring.count + 1 ∧
      (∀ k, k < s.image.ring.count → t.image.ring.record k = s.image.ring.record k) ∧
      let closed (cure : Option CureSummary) : Record :=
        { o.record with
          cure := cure, disposition := some .scrapFault, cause := some c,
          closingTime := if s.clock.set then some s.clock.value else none }
      ((s.press p).state ≠ .curing →
        t.image.ring.record s.image.ring.count = some (closed o.record.cure)) ∧
      ∀ r, (s.press p).state = .curing → s.recipeOf p = some r →
        t.image.ring.record s.image.ring.count =
          some (closed (o.record.cure.map fun (u : CureSummary) => { u with verdict := some (verdict r) }))) ∧
    ((s.press p).bound = none → t.image = s.image ∧ t.retained = s.retained) ∧
    t.zones = s.zones ∧ t.alloc = s.alloc ∧ t.station = s.station ∧ t.inputs = s.inputs ∧ t.clock = s.clock ∧
    t.snapshots = s.snapshots ∧ t.phase = s.phase

/-- The faults that timers and the guard bring (R72, R83, R90, R93): each expiry in its own state, with the demould
summary of a stroke cut short written first. The minimum-open timer only elapses (R81). An expiry of a timer that does
not run does nothing. A falling guard faults every press that moves, one change each (log entry 8): each record closed is
as it stood, with the verdict of a cure ended (R114) or the demould summary of a stroke cut short (R93) written before.
That the presses act in ascending order, and the records enter the ring in that order, is the model's choice (log entry
34).

OPEN_LIMIT low at a press that should stand still (R95): FAULT with cause DRIFT in IDLE, LOADED and UNLOAD. In FAULT,
OPENING, CLOSING, CURING and EJECTING it is no drift: the press acts only on what the other levels bring (R71). The one
way from EJECTING to DRIFT is through UNLOAD: the stroke ends with the part free, and the press enters UNLOAD with
OPEN_LIMIT already low (R92, R95). A condition that no rule for the press's state names changes nothing but the levels
(R71), and a change of KEY changes its level alone (R166). -/
def Obligations.DriftTimersAndTheGuardFaultAPress : Prop :=
  (∀ (s : State) (p : Fin 4), s.phase = .running →
     exec (.closeTimerExpiry p) s = .next
       (if (s.press p).state = .closing ∧ (s.press p).closeTimer ≠ none then
         oneChange s (s.enterFault p .closeTimeout) else s).pump ∧
     exec (.openTimerExpiry p) s = .next
       (if (s.press p).state = .opening ∧ (s.press p).openTimer ≠ none then
         oneChange s (s.enterFault p .openTimeout) else s).pump ∧
     (∀ k, (s.press p).state = .ejecting → (s.press p).stroke = some k → (s.press p).strokeTimer ≠ none →
       exec (.strokeTimerExpiry p) s = .next
         (oneChange s ((s.writeDemould p k.count false).enterFault p .ejectTimeout)).pump) ∧
     ((s.press p).state ≠ .ejecting → exec (.strokeTimerExpiry p) s = .next s.pump) ∧
     exec (.minimumOpenExpiry p) s = .next (s.modPress p fun x => { x with minOpen := none }).pump ∧
     let faulted (t : State) (q : Fin 4) : State :=
       if (t.press q).state = .closing ∨ (t.press q).state = .curing ∨ (t.press q).state = .opening then
         oneChange t (t.enterFault q .guard)
       else if (t.press q).state = .ejecting then
         oneChange t
           ((match (t.press q).stroke with
           | none => t
           | some k => t.writeDemould q k.count false).enterFault q .guard)
       else t
     let fallen : State :=
       { s with lines := { s.lines with guardOk := false }, inputs := { s.inputs with guardOk := false } }
     let t : State := (faulted (faulted (faulted (faulted fallen 0) 1) 2) 3).pump
     let moving : List (Fin 4) :=
       (List.finRange 4).filter fun q =>
         decide ((s.press q).state ∈ [PressState.closing, .curing, .opening, .ejecting])
     exec .guardOkFall s = .next t ∧ t.lines = { s.lines with guardOk := false } ∧
       t.inputs = { s.inputs with guardOk := false } ∧ t.zones = s.zones ∧ t.alloc = s.alloc ∧
       t.station = s.station ∧ t.clock = s.clock ∧ t.phase = s.phase ∧
       (∀ q : Fin 4,
         ((s.press q).state ∈ [PressState.closing, .curing, .opening, .ejecting] →
           (t.press q).state = .fault ∧ (t.press q).cause = some .guard ∧ (t.press q).bound = none ∧
           (t.press q).valves = ⟨false, false, false⟩ ∧
           EventKind.pressFault ∈ t.link.pending.get (Source.press q).index) ∧
         ((s.press q).state ∈ [PressState.idle, .loaded, .unload, .fault] → t.press q = s.press q) ∧
         t.pressHeat q =
           if (s.press q).state = .curing then
             { s.pressHeat q with profile := { (s.pressHeat q).profile with openMark := true } }
           else s.pressHeat q) ∧
       ((∀ q w b c, (s.press q).bound = some b → (s.press w).bound = some c → b.serial = c.serial → q = w) →
         s.image.ring.count + moving.length ≤ 1024 →
         (∀ k, k < s.image.ring.count → t.image.ring.record k = s.image.ring.record k) ∧
         ∀ q ∈ moving, ∀ (b : Bound) (o : OpenRecord) (cure : Option CureSummary) (demould : Option Demould),
           (s.press q).bound = some b →
           s.image.openTable.find? (fun w => decide (w.record.serial = b.serial)) = some o →
           ((s.press q).state ≠ .curing → cure = o.record.cure) →
           ((s.press q).state = .curing →
             ∃ r, s.recipeOf q = some r ∧
               cure =
                 o.record.cure.map fun (u : CureSummary) =>
                   { u with
                     verdict :=
                       some
                         (if (s.press q).cure.credit < (s.press q).cure.target then .under
                         else if (s.press q).cure.target * r.overcure < (s.press q).cure.credit * 16 then .over_
                         else .normal) }) →
           ((s.press q).state ≠ .ejecting → demould = o.record.demould) →
           ((s.press q).state = .ejecting → ∃ k, (s.press q).stroke = some k ∧ demould = some ⟨k.count, false⟩) →
           (∀ w ∈ t.image.openTable, w.record.serial ≠ b.serial) ∧
           ∃ k, s.image.ring.count ≤ k ∧ k < t.image.ring.count ∧
             t.image.ring.record k =
               some { o.record with
                 cure := cure, demould := demould, disposition := some .scrapFault, cause := some .guard,
                 closingTime := if s.clock.set then some s.clock.value else none })) ∧
  (∀ (s : State) (p : Fin 4) (b : Bound) (strokes : Nat) (free : Bool), (s.press p).bound = some b →
     s.writeDemould p strokes free =
       { s with
         image :=
           { s.image with
             openTable :=
               s.image.openTable.map fun (o : OpenRecord) =>
                 if o.record.serial = b.serial then
                   { o with record := { o.record with demould := some ⟨strokes, free⟩ } }
                 else o },
         retained := { s.retained with generation := (s.retained.generation + 1) % 4294967296 } }) ∧
  ((∀ (s : State) (p : Fin 4) (levels : PressInputs) (guardRise : Bool), s.phase = .running →
     let l : PressInputs := { levels with openLimit := false }
     let u : State := { s with lines := s.lines.at p l guardRise, inputs := s.inputs.at p l guardRise }
     ((s.press p).state ∈ [PressState.idle, .loaded, .unload] →
       exec (.openLimitDrift p levels guardRise) s = .next (oneChange s (u.enterFault p .drift)).pump) ∧
     ((s.press p).state ∈ [PressState.fault, .opening] →
       exec (.openLimitDrift p levels guardRise) s = .next u.pump) ∧
     let t : State := (oneChange s (u.settled p)).pump
     ((s.press p).state ∈ [PressState.closing, .curing, .ejecting] →
       exec (.openLimitDrift p levels guardRise) s = .next t) ∧
     ((s.press p).state ∈ [PressState.closing, .curing] →
       (t.press p).state ∈ [PressState.closing, .curing] ∧ (t.press p).cause = (s.press p).cause) ∧
     ((s.press p).state = .ejecting → levels.ejectHome = false →
       (t.press p).state = .ejecting ∧ (t.press p).cause = (s.press p).cause) ∧
     ((s.press p).state = .ejecting → levels.partFree = false → (s.press p).cause ≠ some .drift →
       (t.press p).cause ≠ some .drift) ∧
     (∀ k, (s.press p).state = .ejecting → (s.press p).stroke = some ⟨k, .back⟩ → levels.ejectHome = true →
       levels.partFree = true → (t.press p).state = .fault ∧ (t.press p).cause = some .drift)) ∧
   (∀ (s : State) (p : Fin 4),
     (s.pressCondition p = none → s.settled p = s) ∧
     (∀ t, s.pressCondition p = some t → t.pressCondition p = none → s.settled p = t) ∧
     ((s.press p).state = .fault → s.pressCondition p = none)) ∧
   ∀ (s : State) (level : Bool),
     exec (.keyChange level) s = .next
       { s with
         lines := { s.lines with key := level },
         inputs := if s.phase = .running then { s.inputs with key := level } else s.inputs })

/-- CLOSED_LIMIT and TONNAGE_OK (R82, R84, R103): both high in CLOSING bring CURING with the close mark and a new cure
summary; in CURING a fall of either begins one dip, counted once, and both high again end it. -/
def Obligations.TonnageBringsCuringAndDipsAreCounted : Prop :=
  ∀ (s : State) (p : Fin 4) (levels : PressInputs) (guardRise : Bool), s.phase = .running →
    let shut : PressInputs := { levels with closedLimit := true, tonnageOk := true }
    let heard (l : PressInputs) : State :=
      { s with lines := s.lines.at p l guardRise, inputs := s.inputs.at p l guardRise }
    let x := s.press p
    (∀ b, x.state = .closing → x.bound = some b →
      exec (.curingConditionMet p levels guardRise) s = .next
        { heard shut with
          presses :=
            s.presses.set p
              { x with
                state := .curing, stroke := none, valves := ⟨true, false, false⟩, closeTimer := none,
                dip := false },
          heat := s.heat.modify p fun h => { h with profile := { h.profile with closeMark := true } },
          image :=
            { s.image with
              openTable :=
                s.image.openTable.map fun (o : OpenRecord) =>
                  if o.record.serial = b.serial then
                    { o with
                      record :=
                        { o.record with
                          cure :=
                            some
                              { closeTime := if s.clock.set then some s.clock.value else none, wall := 0,
                                credit := 0, target := x.cure.target, coldMin := none, coldMax := none,
                                frozen := 0, shortfall := 0, dips := 0, verdict := none } } }
                  else o },
          retained := { s.retained with generation := (s.retained.generation + 1) % 4294967296 } }.pump) ∧
    (x.state = .curing →
      exec (.pressureDipEnd p levels guardRise) s =
        .next { heard shut with presses := s.presses.set p { x with dip := false } }.pump ∧
      ∀ d : DipInput,
        let low : PressInputs :=
          match d with
          | .closedLimit => { levels with closedLimit := false }
          | .tonnageOk => { levels with tonnageOk := false }
        (x.dip = true → exec (.pressureDip p d levels guardRise) s = .next (heard low).pump) ∧
        ∀ b, x.dip = false → x.bound = some b →
          exec (.pressureDip p d levels guardRise) s = .next
            ({ heard low with
                presses := s.presses.set p { x with dip := true },
                image :=
                  { s.image with
                    openTable :=
                      s.image.openTable.map fun (o : OpenRecord) =>
                        if o.record.serial = b.serial then
                          { o with
                            record :=
                              { o.record with
                                cure :=
                                  o.record.cure.map fun (u : CureSummary) => { u with dips := min 65535 (u.dips + 1) } } }
                        else o },
                retained :=
                  { s.retained with
                    generation := (s.retained.generation + 1) % 4294967296 } }.raise (.press p)
              .pressureDip).pump)

/-- OPEN_LIMIT in OPENING (R89, R81) and the two phases of a stroke (R91, R92), when the press meets no further
condition at the same moment. -/
def Obligations.OpenLimitAndTheEjectorDemouldThePart : Prop :=
  ∀ (s : State) (p : Fin 4) (levels : PressInputs) (guardRise : Bool) (r : Recipe), s.phase = .running →
    s.recipeOf p = some r →
    let x := s.press p
    let heard (l : PressInputs) (y : Press) : State :=
      { s with
        lines := s.lines.at p l guardRise, inputs := s.inputs.at p l guardRise,
        presses := s.presses.set p y }
    let stroke (k : Nat) (y : Press) : Press :=
      { y with
        state := .ejecting, stroke := some ⟨k, .out⟩, valves := ⟨false, false, true⟩,
        strokeTimer := some (r.strokeTimeout * 1000) }
    (x.state = .opening →
      let opened : Press :=
        { x with
          openTimer := none, minOpen := if r.minOpen = 0 then none else some (r.minOpen * 1000) }
      let l : PressInputs := { levels with openLimit := true }
      (r.demouldTries = 0 →
        exec (.openLimitMet p levels guardRise) s = .next
          ((heard l
            { opened with
              state := .unload, stroke := none, valves := ⟨false, false, false⟩ }).raise (.press p)
            .demouldDone).pump) ∧
      (0 < r.demouldTries → levels.ejectOut = false →
        exec (.openLimitMet p levels guardRise) s = .next (heard l (stroke 1 opened)).pump)) ∧
    (∀ k, x.state = .ejecting → x.stroke = some ⟨k, .out⟩ → levels.ejectHome = false →
      exec (.ejectOutMet p levels guardRise) s = .next
        (heard { levels with ejectOut := true }
          { x with
            stroke := some ⟨k, .back⟩, valves := ⟨false, false, false⟩,
            strokeTimer := some (r.strokeTimeout * 1000) }).pump) ∧
    ∀ k b, x.state = .ejecting → x.stroke = some ⟨k, .back⟩ → x.bound = some b →
      let l : PressInputs := { levels with ejectHome := true }
      let demoulded (free : Bool) (y : Press) : State :=
        { heard l y with
          image :=
            { s.image with
              openTable :=
                s.image.openTable.map fun (o : OpenRecord) =>
                  if o.record.serial = b.serial then
                    { o with record := { o.record with demould := some ⟨k, free⟩ } }
                  else o },
          retained := { s.retained with generation := (s.retained.generation + 1) % 4294967296 } }
      (levels.partFree = true → levels.openLimit = true →
        exec (.ejectHomeMet p levels guardRise) s = .next
          ((demoulded true
            { x with
              state := .unload, stroke := none, valves := ⟨false, false, false⟩,
              strokeTimer := none }).raise (.press p) .demouldDone).pump) ∧
      (levels.partFree = false → k < r.demouldTries → levels.ejectOut = false →
        exec (.ejectHomeMet p levels guardRise) s = .next (heard l (stroke (k + 1) x)).pump) ∧
      (levels.partFree = false → r.demouldTries ≤ k →
        let c := s.image.counters.get p
        let up : Counter := if c.stuck.n < 65535 then ⟨c.stuck.n + 1, c.stuck.saturated⟩ else ⟨c.stuck.n, true⟩
        let d := demoulded false { x with strokeTimer := none }
        exec (.ejectHomeMet p levels guardRise) s = .next
          (oneChange s
            ({ d with
                image := { d.image with counters := s.image.counters.set p { c with stuck := up } } }.enterFault
              p .stuckPart)).pump)

/-- A boundary counted for a press in CURING (R105 to R113): a frame counts with no dip and a usable zone on each
platen, and earns the weight of the coldest usable zone's band; any other is frozen. The wall frames grow; CURE_DONE and
CURE_LIMIT are raised exactly when their flags become yes, which stay yes, and HEAT_LOSS exactly when its flag becomes
set; a boundary raises nothing else and lowers nothing. -/
def Obligations.ABoundaryCountsOneCureFrame : Prop :=
  ∀ (s : State) (p : Fin 4) (r : Recipe) (b : Bound), (s.press p).bound = some b →
    let x := s.press p
    let usable (i : Fin 6) : Prop := (s.zone (zoneAt p i)).state = .active ∧ (s.zone (zoneAt p i)).valid = true
    let platens : Prop :=
      (usable 0 ∨ usable 1 ∨ usable 2) ∧ (usable 3 ∨ usable 4 ∨ usable 5)
    let t := s.countFrame p r
    let c := (t.press p).cure
    c.wall = min 65535 (x.cure.wall + 1) ∧ c.target = x.cure.target ∧ c.verdict = x.cure.verdict ∧
    (c.loss = true ↔ ¬ platens) ∧
    (platens → x.dip = false → ∀ tc : Int,
      (∃ i, usable i ∧ (s.zone (zoneAt p i)).pv = tc) → (∀ i, usable i → tc ≤ (s.zone (zoneAt p i)).pv) →
      ∃ weight : Nat,
        ((∀ i : Fin 8, i.val < r.bandCount → tc < (r.bands.get i).lower) → weight = 0) ∧
        (∀ i : Fin 8, i.val < r.bandCount → ((r.bands.get i).lower : Int) ≤ tc →
          (∀ j : Fin 8, i < j → j.val < r.bandCount → tc < (r.bands.get j).lower) →
          weight = (r.bands.get i).weight) ∧
        c.credit = min 1000000 (x.cure.credit + weight) ∧ c.frozen = x.cure.frozen ∧
        c.coldMin = some (match x.cure.coldMin with
          | none => tc
          | some m => min m tc) ∧
        c.coldMax = some (match x.cure.coldMax with
          | none => tc
          | some m => max m tc)) ∧
    (x.dip = true ∨ ¬ platens →
      c.credit = x.cure.credit ∧ c.frozen = min 65535 (x.cure.frozen + 1) ∧ c.coldMin = x.cure.coldMin ∧
        c.coldMax = x.cure.coldMax) ∧
    (c.done = true ↔ x.cure.done = true ∨ (c.target ≤ c.credit ∧ r.minCure ≤ c.wall)) ∧
    (c.limit = true ↔ x.cure.limit = true ∨ c.wall = r.maxCure) ∧
    (∀ i k, k ∈ t.link.pending.get i ↔
      k ∈ s.link.pending.get i ∨
        (i = (Source.press p).index ∧
          ((k = .heatLoss ∧ c.loss = true ∧ x.cure.loss = false) ∨
            (k = .cureDone ∧ c.done = true ∧ x.cure.done = false) ∨
            (k = .cureLimit ∧ c.limit = true ∧ x.cure.limit = false)))) ∧
    (¬ (c.loss = true ∧ x.cure.loss = false) → ¬ (c.done = true ∧ x.cure.done = false) →
      ¬ (c.limit = true ∧ x.cure.limit = false) → t.link = s.link) ∧
    (s.autoOpens p r = true ↔
      r.autoOpen = true ∧
        ((c.done = true ∧ x.cure.done = false) ∨
          (c.limit = true ∧ x.cure.limit = false ∧ x.cure.done = false))) ∧
    t.image.openTable =
      s.image.openTable.map (fun (o : OpenRecord) =>
        if o.record.serial = b.serial then
          { o with
            record :=
              { o.record with
                cure :=
                  o.record.cure.map fun (u : CureSummary) =>
                    { u with
                      wall := c.wall, credit := c.credit, frozen := c.frozen, coldMin := c.coldMin,
                      coldMax := c.coldMax } } }
        else o) ∧
    t.press p = { x with cure := c } ∧ (∀ q, q ≠ p → t.press q = s.press q) ∧ t.zones = s.zones ∧ t.heat = s.heat

/-! ## Heat (chapters 1 and 2) -/

/-- SET_HEAT_MODE (R5 to R8): its checks in order; taken, the mode changes, entering RUN restarts the profile at the
mean of the valid temperatures, and every zone that is neither FAULT nor DISABLED goes to its mode state, the
others staying as they are. A mode the press already has, but STANDBY, changes nothing. -/
def Obligations.SetHeatModeMovesThePressesZones : Prop :=
  ∀ (s : State) (tag press mode : Byte) (standby : Half) (held : Byte),
    let body := press :: mode :: (halfBytes standby ++ [held])
    s.holds 0x18 tag body →
    let refused (st : Status) : Prop :=
      exec (.setHeatMode tag press mode standby held) s = .next (s.repliedTo 0x18 tag body st [])
    (3 < press.toNat ∨ 2 < mode.toNat → refused .badValue) ∧
    (mode = 2 → 4000 < standby.toNat ∨ 63 < held.toNat → refused .badValue) ∧
    ∀ (p : Fin 4) (m : HeatMode), press.toNat = p.val → mode.toNat = m.code →
      (m = .standby → standby.toNat ≤ 4000 ∧ held.toNat ≤ 63) →
      let running := (s.pressHeat p).mode
      let mayLeave : Prop :=
        (s.press p).state = .idle ∧ (s.press p).tickets = [] ∧
          ∀ o, s.station.current = some o → o.press ≠ p
      (running = .run → m ≠ .run → ¬ mayLeave → refused .inUse) ∧
      (running ≠ .run → m = .run → s.image.assigned.get p = none → refused .wrongState) ∧
      (running = m → m ≠ .standby → refused .ok) ∧
      ((m = .standby ∨ running ≠ m) → (running = .run → mayLeave) →
        ((m = .run) → s.image.assigned.get p ≠ none) →
        ∃ t, exec (.setHeatMode tag press mode standby held) s = .next t ∧
          t = { s with zones := t.zones, heat := t.heat, link := s.link.repliedTo 0x18 tag body .ok [] } ∧
          (∀ q, q ≠ p → t.pressHeat q = s.pressHeat q) ∧ (t.pressHeat p).mode = m ∧
          (t.pressHeat p).ready = (s.pressHeat p).ready ∧
          (m ≠ .run → (t.pressHeat p).profile = (s.pressHeat p).profile) ∧
          (m ≠ .standby →
            (t.pressHeat p).standby = (s.pressHeat p).standby ∧
              (t.pressHeat p).heldSet = (s.pressHeat p).heldSet) ∧
          (m = .standby →
            (t.pressHeat p).standby = standby.toNat ∧
              ∀ i : Fin 6, (t.pressHeat p).heldSet.get i = held.getLsbD i.val) ∧
          (m = .run →
            let pvs :=
              ((List.finRange 6).filter fun i =>
                decide ((s.zone (zoneAt p i)).state ≠ .fault) &&
                  decide ((s.zone (zoneAt p i)).state ≠ .disabled) && (s.zone (zoneAt p i)).valid).map
                fun i => (s.zone (zoneAt p i)).pv
            (t.pressHeat p).profile =
              { segment := 0, phase := .ramp, secondsHeld := 0,
                sp := if pvs = [] then 0 else max 0 (min 4000 (pvs.sum / pvs.length)),
                closeMark := false, openMark := false }) ∧
          (∀ z, zonePress z ≠ p ∨ (s.zone z).state = .fault ∨ (s.zone z).state = .disabled →
            t.zone z = s.zone z) ∧
          ∀ i : Fin 6,
            let z := s.zone (zoneAt p i)
            z.state ≠ .fault → z.state ≠ .disabled →
            (m = .off ∨ (m = .standby ∧ held.getLsbD i.val = false) →
              t.zone (zoneAt p i) =
                { z with
                  state := .off, cause := none, sp := 0, demand := 0, requested := 0, integ := 0,
                  granted := 0, carry := 0, out := false }) ∧
            (m = .standby → held.getLsbD i.val = true →
              t.zone (zoneAt p i) = { z with state := .held, cause := none, sp := standby.toNat }) ∧
            ∀ r, m = .run → s.recipeOf p = some r →
              t.zone (zoneAt p i) =
                { z with
                  state := .active, cause := none,
                  sp := max 0 (min 4000 ((t.pressHeat p).profile.sp + r.offsets.get i)) })

/-- CLEAR_ZONE, DISABLE_ZONE and ENABLE_ZONE (R19 to R21): refused for a zone above 23, and CLEAR_ZONE out of FAULT
and ENABLE_ZONE out of DISABLED; taken, the one zone enters its mode state, or DISABLED with every figure cleared,
and nothing else changes. -/
def Obligations.ZonesAreClearedDisabledAndEnabled : Prop :=
  ∀ (s : State) (tag zone : Byte),
    (23 < zone.toNat →
      (s.holds 0x1A tag [zone] →
        exec (.clearZone tag zone) s = .next (s.repliedTo 0x1A tag [zone] .badValue [])) ∧
      (s.holds 0x1B tag [zone] →
        exec (.disableZone tag zone) s = .next (s.repliedTo 0x1B tag [zone] .badValue [])) ∧
      (s.holds 0x1C tag [zone] →
        exec (.enableZone tag zone) s = .next (s.repliedTo 0x1C tag [zone] .badValue []))) ∧
    ∀ z : Fin 24, zone.toNat = z.val →
      let old := s.zone z
      let cleared : Zone :=
        { old with
          cause := none, sp := 0, demand := 0, requested := 0, integ := 0, granted := 0, carry := 0,
          out := false }
      let h := s.pressHeat (zonePress z)
      let back : Zone :=
        if h.mode = .run then
          { old with
            state := .active, cause := none,
            sp :=
              max 0 (min 4000 (h.profile.sp +
                match s.recipeOf (zonePress z) with
                | some r => r.offsets.get (zonePos z)
                | none => 0)) }
        else if h.mode = .standby ∧ h.heldSet.get (zonePos z) = true then
          { old with state := .held, cause := none, sp := h.standby }
        else { cleared with state := .off }
      (s.holds 0x1A tag [zone] →
        (old.state ≠ .fault →
          exec (.clearZone tag zone) s = .next (s.repliedTo 0x1A tag [zone] .wrongState [])) ∧
        (old.state = .fault →
          exec (.clearZone tag zone) s =
            .next ({ s with zones := s.zones.set z back }.repliedTo 0x1A tag [zone] .ok []))) ∧
      (s.holds 0x1B tag [zone] →
        exec (.disableZone tag zone) s = .next
          ({ s with zones := s.zones.set z { cleared with state := .disabled } }.repliedTo 0x1B tag [zone] .ok
            [])) ∧
      (s.holds 0x1C tag [zone] →
        (old.state ≠ .disabled →
          exec (.enableZone tag zone) s = .next (s.repliedTo 0x1C tag [zone] .wrongState [])) ∧
        (old.state = .disabled →
          exec (.enableZone tag zone) s =
            .next ({ s with zones := s.zones.set z back }.repliedTo 0x1C tag [zone] .ok [])))

/-- A reading (R2, R17, R18, R40): held within −500 to 4500 as the zone's latest; an ACTIVE or HELD zone that it
finds broken or too hot faults at once, with its output cut and its figures cleared but its setpoint kept. That the
temperature tested is the one held is the model's reading (log entry 31). -/
def Obligations.AnArrivingReadingIsHeldAndTested : Prop :=
  ∀ (s : State) (z : Fin 24) (x : Reading), s.phase = .running →
    let old := s.zone z
    let kept : Reading :=
      match x with
      | .broken => .broken
      | .valid t => .valid (max (-500) (min 4500 t))
    let found : Option ZoneFault :=
      if old.state = .active ∨ old.state = .held then
        match kept with
        | .broken => some .break_
        | .valid t => if old.sp + s.image.settings.overMargin < t then some .overtemp else none
      else none
    (found = none →
      exec (.thermocoupleReading z x) s =
        .next { s with zones := s.zones.set z { old with latest := some kept } }.pump) ∧
    ∀ c, found = some c →
      exec (.thermocoupleReading z x) s = .next
        ({ s with
            zones :=
              s.zones.set z
                { old with
                  latest := some kept, state := .fault, cause := some c, demand := 0, requested := 0,
                  integ := 0, granted := 0, carry := 0,
                  out := false } }.raise (.press (zonePress z)) .zoneFault).pump

/-- A slot begins (R26, R38, R39): in slots 0 to 19 a heated zone's output is on exactly when its run of granted
positions, taken modulo 20, reaches the slot; then the frame moves on to its next slot. A slot number of 20, with no
frame running, and a command with no slot left, which turns every output off and leaves the number, are the model's
choice (log entries 13 and 30). -/
def Obligations.AHeaterSlotDrivesThePlacedOutputs : Prop :=
  ∀ s : State, s.phase = .running →
    ∃ t, exec .heaterSlot s = .next t ∧
      t = { s with zones := t.zones, alloc := t.alloc } ∧
      t.alloc =
        { s.alloc with slot := if s.alloc.slot < 20 then s.alloc.slot + 1 else s.alloc.slot } ∧
      ∀ z, t.zone z = { s.zone z with out := (t.zone z).out } ∧
        ((t.zone z).out = true ↔
          s.alloc.slot < 20 ∧ ((s.zone z).state = .active ∨ (s.zone z).state = .held) ∧
            ∃ k : Nat, k < 20 ∧ (k : Int) < (s.zone z).granted ∧
              ((s.zone z).start + k) % 20 = s.alloc.slot)

/-- Heat readiness (R22): in RUN, with the profile in the HOLD of an AT_CLOSE segment, every zone that is ACTIVE with a
VALID reading within the ready band, and such a zone on each platen. One advance of a heat profile (R10 to R12), in a
segment of the recipe. And the Zone Controller's work at a boundary (R3, R4, R9, R14 to R18, R23), zone by zone, with
the frame of the rest of the part. -/
def Obligations.ABoundaryAdvancesProfilesAndComputesZones : Prop :=
  (∀ (s : State) (p : Fin 4),
     let h := s.pressHeat p
     let counted (i : Fin 6) : Prop :=
       (s.zone (zoneAt p i)).state = .active ∧ (s.zone (zoneAt p i)).valid = true
     s.heatReady p = true ↔
       h.mode = .run ∧ h.profile.phase = .hold ∧
       ∃ r, s.recipeOf p = some r ∧
         (∃ k : Fin 8, k.val = h.profile.segment ∧ k.val < r.segmentCount ∧
           (r.segments.get k).endKind = .atClose) ∧
         (∀ i, counted i →
           (s.zone (zoneAt p i)).pv - (s.zone (zoneAt p i)).sp ≤ (r.readyBand : Int) ∧
             (s.zone (zoneAt p i)).sp - (s.zone (zoneAt p i)).pv ≤ (r.readyBand : Int)) ∧
         (∃ i : Fin 6, i.val < 3 ∧ counted i) ∧ ∃ i : Fin 6, 3 ≤ i.val ∧ counted i) ∧
  (∀ (f : Profile) (r : Recipe) (g : Segment), r.segmentAt f.segment = some g →
     let sp : Int :=
       if g.rate = 0 then g.target
       else if f.sp < g.target then min g.target (f.sp + g.rate)
       else max g.target (f.sp - g.rate)
     let after : Nat := if f.segment + 1 < r.segmentCount then f.segment + 1 else r.restSegment
     let ended (x : Profile) : Profile := { x with segment := after, phase := .ramp, secondsHeld := 0 }
     let tested (x : Profile) : Profile :=
       match g.endKind with
       | .time => if g.hold ≤ x.secondsHeld then ended x else x
       | .atClose => if x.closeMark then ended { x with closeMark := false } else x
       | .atOpen => if x.openMark then ended { x with openMark := false } else x
     (f.phase = .ramp → sp ≠ g.target → f.advance r = { f with sp := sp }) ∧
     (f.phase = .ramp → sp = g.target →
       f.advance r = tested { f with sp := sp, phase := .hold, secondsHeld := 0 }) ∧
     (f.phase = .hold →
       f.advance r =
         tested (if g.endKind = .time then { f with secondsHeld := f.secondsHeld + 1 } else f))) ∧
  (∀ s : State,
     let t := s.zoneBoundary
     t = { s with zones := t.zones, heat := t.heat, link := t.link } ∧
     (∀ p, (t.pressHeat p).profile =
         (match (s.pressHeat p).mode, s.recipeOf p with
         | .run, some r => (s.pressHeat p).profile.advance r
         | _, _ => (s.pressHeat p).profile) ∧
       (t.pressHeat p).mode = (s.pressHeat p).mode ∧ (t.pressHeat p).standby = (s.pressHeat p).standby ∧
       (t.pressHeat p).heldSet = (s.pressHeat p).heldSet ∧ (t.pressHeat p).ready = t.heatReady p ∧
       ((t.pressHeat p).ready = true → (s.pressHeat p).ready = false →
         EventKind.heatReady ∈ t.link.pending.get (Source.press p).index)) ∧
     ∀ z : Fin 24,
       let old := s.zone z
       let new := t.zone z
       let heated (x : Zone) : Prop := x.state = .active ∨ x.state = .held
       new.latest = none ∧ new.starved = old.starved ∧ new.start = old.start ∧
       (match old.latest with
       | some (.valid d) => new.pv = d ∧ new.valid = true
       | some .broken => new.pv = old.pv ∧ new.valid = false
       | none => new.pv = old.pv ∧ new.valid = false) ∧
       (old.state = .active →
         new.sp = max 0 (min 4000 ((t.pressHeat (zonePress z)).profile.sp + s.offsetOf z))) ∧
       (old.state = .held → new.sp = (s.pressHeat (zonePress z)).standby) ∧
       (¬ heated old → new.sp = old.sp ∧ new.state = old.state ∧ new.cause = old.cause) ∧
       (heated old →
         let fault : Option ZoneFault :=
           if new.valid = false then some .break_
           else if new.sp + s.image.settings.overMargin < new.pv then some .overtemp
           else none
         (fault = none → new.state = old.state ∧ new.granted = old.granted ∧ new.carry = old.carry ∧
           new.out = old.out) ∧
         (fault ≠ none → new.state = .fault ∧ new.cause = fault ∧ new.granted = 0 ∧ new.carry = 0 ∧
           new.out = false ∧ EventKind.zoneFault ∈ t.link.pending.get (Source.press (zonePress z)).index)) ∧
       (heated new →
         let k := s.image.tuning.get z
         let e := max (-1000) (min 1000 (new.sp - new.pv))
         let p := ((k.kp : Int) * e).tdiv 10
         let raw := p + old.integ / 16
         new.integ =
           (if (1000 < raw ∧ 0 < e) ∨ (raw < 0 ∧ e < 0) then old.integ
           else max 0 (min 16000 (old.integ + k.ki * e))) ∧
         new.demand = max 0 (min 1000 (p + new.integ / 16)) ∧
         new.requested = (new.demand * 20 + 500) / 1000) ∧
       (¬ heated new → new.demand = 0 ∧ new.requested = 0 ∧ new.integ = 0))

/-- The allocation (R27 to R36, R38): a heated zone is of the cure class while its press is in CLOSING or CURING, and of
the normal class in the other six states (R29). The cure class first, then the normal class, each zone in pass order taking the
smaller of its entitlement and what is left of 20 slots for each output of the limit; then, with levelling on, the
extra of the normal class; then the carries, the dropped slots and the placement end to end. That every output is off
until the frame's first slot command, with slot 0 the next, and where the run of a zone with nothing granted starts, are
the model's choice (log entry 13). -/
def Obligations.TheAllocationServesTheCureClassFirst : Prop :=
  ∀ s : State, (∀ z, (s.zone z).sound) →
    let t := s.allocate
    let capacity : Int := 20 * (s.image.settings.demandLimit : Int)
    let place (z : Fin 24) : Nat := (z.val + 24 - s.alloc.pointer.val) % 24
    let heated (z : Fin 24) : Prop := (s.zone z).state = .active ∨ (s.zone z).state = .held
    let total (f : Fin 24 → Int) : Int := ((List.finRange 24).map f).sum
    let before (z : Fin 24) (f : Fin 24 → Int) : Int := total fun y => if place y < place z then f y else 0
    let wants (z : Fin 24) : Int := max 0 (min 20 ((s.zone z).requested + (s.zone z).carry))
    let eligible (z : Fin 24) : Bool := decide ((s.zone z).state = .active) || decide ((s.zone z).state = .held)
    let inCure (z : Fin 24) : Bool :=
      decide ((s.press (zonePress z)).state = .closing) || decide ((s.press (zonePress z)).state = .curing)
    (∀ z, s.cureClass z = inCure z ∧ (zonePress z).val = z.val / 6) ∧
    t.alloc.pointer.val = (s.alloc.pointer.val + 1) % 24 ∧
    t.alloc.limit = some s.image.settings.demandLimit ∧ t.alloc.slot = 0 ∧
    ∃ cure normal extra : Fin 24 → Int,
      (∀ z, (t.zone z).granted = cure z + normal z + extra z ∧ 0 ≤ (t.zone z).granted ∧
        (t.zone z).granted ≤ 20) ∧
      total cure + total normal + total extra ≤ capacity ∧
      (∀ z, cure z =
        if eligible z ∧ inCure z then min (wants z) (capacity - before z cure) else 0) ∧
      (∀ z, normal z =
        if eligible z ∧ ¬ inCure z then
          min (wants z) (capacity - total cure - before z normal)
        else 0) ∧
      (∀ z, extra z =
        if eligible z ∧ ¬ inCure z ∧ s.image.settings.levelling = true then
          max 0 (min (20 - normal z)
            (min (capacity - total cure - total normal - before z extra)
              (8 + (s.zone z).carry + (s.zone z).requested - normal z)))
        else 0) ∧
      ∀ z,
        let raw := (s.zone z).carry + (s.zone z).requested - (t.zone z).granted
        (t.zone z).state = (s.zone z).state ∧ (t.zone z).out = false ∧
        ((t.zone z).start : Int) = before z (fun y => (t.zone y).granted) ∧
        (heated z →
          -8 ≤ raw ∧ (t.zone z).carry = min 8 raw ∧
          (t.zone z).starved = min 4294967295 ((s.zone z).starved + (raw - 8).toNat) ∧
          (8 < raw → EventKind.shortfall ∈ t.link.pending.get (Source.press (zonePress z)).index)) ∧
        (¬ heated z → (t.zone z).carry = 0 ∧ (t.zone z).granted = 0 ∧ (t.zone z).starved = (s.zone z).starved)

/-- The slots a curing press's zones drop are added to the shortfall of its bound part, and to no other press's (R36,
R37). An allocation charges each press in turn with what it grants, and besides changes zones and allocator only.
HEAT_FRAME_BOUNDARY (R4, R28, R105, R86): the Zone Controller's work, the allocation, and then each press in turn; a
press in CURING counts its frame and, told to open, starts to, and no other press does anything. That the allocation
comes before the counting, and the presses in ascending order, is the model's choice (log entry 35). -/
def Obligations.AHeatFrameBoundaryChargesAndCounts : Prop :=
  (∀ (granted : Tab Zone 24) (s : State) (p : Fin 4),
     let dropped : Nat :=
       ((List.finRange 6).map fun i =>
         let z := granted.get (zoneAt p i)
         if z.state = .active ∨ z.state = .held then (z.carry + z.requested - z.granted - 8).toNat else 0).sum
     (dropped = 0 → s.chargeShortfall granted p = s) ∧
     (0 < dropped → (s.press p).state ≠ .curing →
       s.chargeShortfall granted p = s.raise (.press p) .shortfall) ∧
     ∀ b, 0 < dropped → (s.press p).state = .curing → (s.press p).bound = some b →
       s.chargeShortfall granted p =
         { s.raise (.press p) .shortfall with
           image :=
             { s.image with
               openTable :=
                 s.image.openTable.map fun (o : OpenRecord) =>
                   if o.record.serial = b.serial then
                     { o with
                       record :=
                         { o.record with
                           cure :=
                             o.record.cure.map fun (u : CureSummary) =>
                               { u with shortfall := min 4294967295 (u.shortfall + dropped) } } }
                   else o },
           retained := { s.retained with generation := (s.retained.generation + 1) % 4294967296 } }) ∧
  (∀ s : State,
     let t := s.allocate
     let granted : Tab Zone 24 := Tab.build fun z => { s.zone z with granted := (t.zone z).granted }
     let charged :=
       (((s.chargeShortfall granted 0).chargeShortfall granted 1).chargeShortfall granted 2).chargeShortfall granted 3
     t = { charged with zones := t.zones, alloc := t.alloc } ∧ t.presses = s.presses) ∧
  ((∀ s : State, s.phase = .running →
     let u := s.zoneBoundary.allocate
     exec .heatFrameBoundary s = .next
       (oneChange s ((((u.cureBoundary 0).cureBoundary 1).cureBoundary 2).cureBoundary 3)).pump) ∧
   (∀ s : State, s.phase ≠ .running → exec .heatFrameBoundary s = .next s) ∧
   ∀ (s : State) (p : Fin 4),
     ((s.press p).state ≠ .curing → s.cureBoundary p = s) ∧
     ∀ r, (s.press p).state = .curing → s.recipeOf p = some r →
       s.cureBoundary p =
         if s.autoOpens p r = true then ((s.countFrame p r).startToOpen p).settled p else s.countFrame p r)

/-! ## Reports -/

/-- READ_ZONES, READ_PRESS and READ_SCALE (R24, R68, R98): refused for a press above 3; otherwise the report, and
nothing changes. Every report and record has the length and, at each offset of its layout, the field the layout gives
(R205, R206, R54), named values by their codes. The offsets of the three reports count the status byte, as their tables
do. A timer's seconds left are rounded up. The tag byte of no current order, 0, is the model's choice (log entry 32), and
so are the bytes of a cure summary that is absent (log entry 16). -/
def Obligations.ReportsAreRepliedAndChangeNothing : Prop :=
  let mark (b : Bool) : List Byte := [if b then 1 else 0]
  let one (n : Nat) : List Byte := [BitVec.ofNat 8 n]
  let left (timer : Option Nat) : Nat :=
    match timer with
    | none => 0
    | some ms => (ms + 999) / 1000
  let laid (report : List Byte) (fields : List (Nat × List Byte)) : Prop :=
    ∀ f ∈ fields, (report.drop f.1).take f.2.length = f.2
  (∀ (s : State) (tag : Byte), s.holds 0x23 tag [] →
    exec (.readScale tag) s = .next (s.repliedTo 0x23 tag [] .ok s.scaleReport)) ∧
  (∀ (s : State) (tag press : Byte),
    (s.holds 0x19 tag [press] →
      (3 < press.toNat → exec (.readZones tag press) s = .next (s.repliedTo 0x19 tag [press] .badValue [])) ∧
      ∀ p : Fin 4, press.toNat = p.val →
        exec (.readZones tag press) s = .next (s.repliedTo 0x19 tag [press] .ok (s.zoneReport p))) ∧
    (s.holds 0x2E tag [press] →
      (3 < press.toNat → exec (.readPress tag press) s = .next (s.repliedTo 0x2E tag [press] .badValue [])) ∧
      ∀ p : Fin 4, press.toNat = p.val →
        exec (.readPress tag press) s = .next (s.repliedTo 0x2E tag [press] .ok (s.pressReport p)))) ∧
  (∀ (s : State) (p : Fin 4),
    let h := s.pressHeat p
    (s.zoneReport p).length = 109 ∧
    (∃ held : Byte, (∀ i : Fin 8, held.getLsbD i.val = true ↔ ∃ j : Fin 6, j.val = i.val ∧ h.heldSet.get j = true) ∧
      laid (Status.ok.code :: s.zoneReport p)
        [(1, one h.mode.code), (2, sbe16 h.standby), (4, [held]), (5, mark h.ready), (6, one h.profile.segment),
          (7, one h.profile.phase.code), (8, be16 h.profile.secondsHeld), (10, sbe16 h.profile.sp),
          (12, mark h.profile.closeMark), (13, mark h.profile.openMark)]) ∧
    ∀ i : Fin 6,
      let z := s.zone (zoneAt p i)
      laid ((Status.ok.code :: s.zoneReport p).drop (14 + 16 * i.val))
        [(0, one z.state.code), (1, one (ZoneFault.code z.cause)), (2, sbe16 z.pv), (4, mark z.valid),
          (5, sbe16 z.sp), (7, sbe16 z.demand), (9, sbe8 z.requested), (10, sbe8 z.granted), (11, sbe8 z.carry),
          (12, be32 z.starved)]) ∧
  (∀ (s : State) (p : Fin 4),
    let x := s.press p
    let o := s.boundRecord p
    let levels := s.inputs.presses.get p
    let ticket (k : Nat) : List Byte :=
      match x.tickets[k]? with
      | none => [0, 0, 0, 0, 0, 0, 0]
      | some q => be32 q.serial ++ [q.tag] ++ be16 (left (some q.pot))
    (s.pressReport p).length = 50 ∧
    laid (Status.ok.code :: s.pressReport p)
      [(1, one x.state.code), (2, one (PressFault.code x.cause)), (3, one (s.pressHeat p).mode.code),
        (4, one x.tickets.length), (5, ticket 0), (12, ticket 1),
        (19, be32 ((x.bound.map Bound.serial).getD 0)), (23, be16 (left (x.bound.bind Bound.pot))),
        (25, mark ((o.map OpenRecord.aborted).getD false)), (26, mark ((o.map OpenRecord.expired).getD false)),
        (27, be32 x.cure.credit), (31, be16 x.cure.target), (33, be16 x.cure.wall), (35, mark x.cure.done),
        (36, mark x.cure.limit), (37, mark (decide (x.state = .curing) && x.dip)), (38, one (left x.closeTimer)),
        (39, one (left x.openTimer)), (40, one (left x.strokeTimer)), (41, be16 (left x.minOpen)),
        (43, one ((x.stroke.map Stroke.count).getD 0)), (44, mark levels.openLimit), (45, mark levels.closedLimit),
        (46, mark levels.tonnageOk), (47, mark levels.ejectHome), (48, mark levels.ejectOut),
        (49, mark levels.partFree), (50, mark s.inputs.guardOk)]) ∧
  (∀ s : State, s.station.queue.length ≤ 8 →
    let w := s.station
    let order (o : Order) : List Byte := [o.tag, BitVec.ofNat 8 o.press.val]
    s.scaleReport.length = 36 ∧
    laid (Status.ok.code :: s.scaleReport)
      [(1, one w.state.code),
        (3, match w.current with
          | none => [0, 255]
          | some o => order o),
        (5, one w.queue.length),
        (22, sbe16 (if w.window.length < 8 then -32768 else w.averages.getLast?.getD (-32768))),
        (24, one w.averages.length), (25, mark w.stable), (26, mark (w.window.any Entry.isOver)),
        (27, sbe32 w.offset), (31, one w.chargesSinceZero), (32, mark w.zeroDue), (33, one w.postponements),
        (34, one (left w.settle)), (35, be16 w.orderDrops)] ∧
    (∀ i : Fin 8,
      laid (Status.ok.code :: s.scaleReport)
        [(6 + 2 * i.val, match w.queue[i.val]? with
          | none => [0, 0]
          | some o => order o)]) ∧
    (let full : Prop := s.image.openTable.length + s.image.ring.count ≥ 1024
     let overdue : Prop := w.zeroDue = true ∧ w.postponements = 4
     let eligible (o : Order) : Prop :=
       (s.pressHeat o.press).mode = .run ∧ (s.press o.press).tickets.length < 2
     let reason (n : Nat) : Prop := laid (Status.ok.code :: s.scaleReport) [(2, one n)]
     (w.state ≠ .empty → reason 0) ∧
     (w.state = .empty →
       (overdue → reason 3) ∧
       (¬ overdue →
         (full → reason 2) ∧
         (¬ full →
           (s.image.nextSerial = none → reason 5) ∧
           (s.image.nextSerial ≠ none →
             (w.queue = [] → reason 1) ∧
             (w.queue ≠ [] → (∀ o ∈ w.queue, ¬ eligible o) → reason 4) ∧
             ∀ o ∈ w.queue, eligible o → reason 0)))))) ∧
  (∀ q : Record,
    let time (x : Option Nat) : List Byte := be32 (x.getD 0)
    q.bytes.length = 57 ∧
    laid q.bytes
      [(0, be32 q.serial), (4, one q.press.val), (5, one q.slot.val), (6, be16 q.revision), (8, [q.tag]),
        (9, sbe16 q.weight), (11, sbe16 q.deviation),
        (13, one
          ((if q.weighTime.isSome then 1 else 0) + (if q.loadTime.isSome then 2 else 0) +
            (if q.closingTime.isSome then 4 else 0) + (if q.cure.isSome then 8 else 0) +
            (if (q.cure.bind CureSummary.closeTime).isSome then 16 else 0) +
            (if q.demould.isSome then 32 else 0))),
        (14, time q.weighTime), (18, time q.loadTime), (22, one (Disposition.code q.disposition)),
        (23, one (PressFault.code q.cause)), (24, time q.closingTime)] ∧
    laid q.bytes
      [(28, match q.annotation with
        | none => [0, 0]
        | some a => [if a.pass then 1 else 2, a.inspector]),
        (55, match q.demould with
        | none => [0, 0]
        | some d => one d.strokes ++ mark d.cameFree)] ∧
    (q.cure = none → laid q.bytes [(30, List.replicate 25 0)]) ∧
    ∀ u, q.cure = some u →
      laid q.bytes
        [(30, time u.closeTime), (34, be16 u.wall), (36, be32 u.credit), (40, be16 u.target),
          (42, sbe16 (u.coldMin.getD (-32768))), (44, sbe16 (u.coldMax.getD (-32768))), (46, be16 u.frozen),
          (48, be32 u.shortfall), (52, be16 u.dips), (54, one (Verdict.code u.verdict))]) ∧
  (∀ r : Recipe, r.name.length ≤ 12 →
    r.bytes.length = 141 ∧
    laid r.bytes
      [(0, r.name), (r.name.length, List.replicate (12 - r.name.length) 0), (12, be16 r.nominal),
        (14, be16 r.tolerance), (16, be16 r.potLife), (18, one r.segmentCount), (19, one r.restSegment),
        (88, be16 r.readyBand), (90, one r.bandCount), (123, be16 r.cureTarget), (125, be16 r.minCure),
        (127, be16 r.maxCure), (129, be16 r.overcure), (131, mark r.autoOpen), (132, be16 r.closeTimeout),
        (134, be16 r.openTimeout), (136, be16 r.minOpen), (138, one r.demouldTries), (139, be16 r.strokeTimeout)] ∧
    (∀ i : Fin 8,
      let g := r.segments.get i
      laid r.bytes [(20 + 7 * i.val, be16 g.target ++ be16 g.rate ++ be16 g.hold ++ one g.endKind.code)]) ∧
    (∀ i : Fin 6, laid r.bytes [(76 + 2 * i.val, sbe16 (r.offsets.get i))]) ∧
    ∀ i : Fin 8,
      laid r.bytes [(91 + 4 * i.val, be16 (r.bands.get i).lower ++ be16 (r.bands.get i).weight)]) ∧
  (∀ r : RawRecipe, r.bytes.length = 141) ∧
  [PressState.idle, .loaded, .closing, .curing, .opening, .ejecting, .unload, .fault].map PressState.code =
    [0, 1, 2, 3, 4, 5, 6, 7] ∧
  [none, some PressFault.closeTimeout, some .openTimeout, some .ejectTimeout, some .stuckPart, some .guard,
    some .drift, some .reset].map PressFault.code = [0, 1, 2, 3, 4, 5, 6, 7] ∧
  [HeatMode.off, .run, .standby].map HeatMode.code = [0, 1, 2] ∧
  [ZoneState.off, .active, .held, .fault, .disabled].map ZoneState.code = [0, 1, 2, 3, 4] ∧
  [none, some ZoneFault.break_, some .overtemp].map ZoneFault.code = [0, 1, 2] ∧
  [ProfilePhase.ramp, .hold].map ProfilePhase.code = [0, 1] ∧
  [StationState.unzeroed, .empty, .waiting, .settling, .removal, .fault].map StationState.code =
    [0, 1, 2, 3, 4, 5] ∧
  [none, some Disposition.rejectLight, some .rejectHeavy, some .scrapExpired, some .scrapAborted, some .scrapFault,
    some .scrapReset, some .scrapPower, some .suspect, some .good].map Disposition.code =
    [0, 1, 2, 3, 4, 5, 6, 7, 8, 9] ∧
  [none, some Verdict.under, some .normal, some .over_].map Verdict.code = [0, 1, 2, 3] ∧
  [EndKind.time, .atClose, .atOpen].map EndKind.code = [0, 1, 2]

/-! ## Invariants -/

/-- The state right after reset meets every invariant below. -/
def Obligations.TheResetStateMeetsEveryInvariant : Prop :=
  State.reset.heatSound ∧ State.reset.supplySound ∧ State.reset.pressesSound ∧ State.reset.partsSound ∧
    State.reset.station.sound ∧ State.reset.roomSound ∧ State.reset.storeSound ∧ State.reset.link.sound

/-- Every zone's figures stay in their ranges, and a zone that is not heated keeps its output off (R1, R14 to R18,
R35, R36, R40). -/
def Obligations.EveryStepKeepsTheZonesSound : Prop :=
  ∀ s t : State, s.heatSound → step s = .next t → t.heatSound

/-- In every state the heater outputs that are on are at most the demand limit in force (R38), and every output is
off while the part does not work (R39). -/
def Obligations.EveryStepKeepsTheHeaterSupply : Prop :=
  ∀ s t : State, s.heatSound → s.supplySound → step s = .next t → t.supplySound

/-- The presses stay as R70, R73 and R53 say. -/
def Obligations.EveryStepKeepsThePressesSound : Prop :=
  ∀ s t : State, s.pressesSound → s.station.sound → step s = .next t → t.pressesSound

/-- The open records are those of the tickets and the bound parts, press by press, and no serial appears twice among the
open records and the closed uncollected records (R122, R123). That the image holds its defaults while a recall runs or waits is the model's choice (log entry 22). -/
def Obligations.EveryStepKeepsOneOpenRecordForEachPart : Prop :=
  ∀ s t : State, s.pressesSound → s.roomSound → s.partsSound → step s = .next t → t.partsSound

/-- The Weigh Station's lists, counts, order and timer keep to their bounds (R44, R50, R52, R53, R57). -/
def Obligations.EveryStepKeepsTheStationSound : Prop :=
  ∀ s t : State, s.station.sound → step s = .next t → t.station.sound

/-- The open records and the uncollected records never exceed 1024 (R132), in the working image and in every image
that may come back. -/
def Obligations.EveryStepKeepsTheRoom : Prop :=
  ∀ s t : State, s.roomSound → s.station.sound → step s = .next t → t.roomSound

/-- Every recipe a slot holds satisfies every range and structural condition, and every setting and gain lies in its
range (R159, R171, R174). -/
def Obligations.EveryStepKeepsRecipesAndSettingsInRange : Prop :=
  ∀ s t : State, s.storeSound → step s = .next t → t.storeSound

/-- The Link Port's sets stay in code order, and a reply is only ever that of an answered request in hand (R192,
R195 to R198). -/
def Obligations.EveryStepKeepsTheLinkSound : Prop :=
  ∀ s t : State, s.link.sound → step s = .next t → t.link.sound

end ObligationList
end

