-- ==== Sys2Proof/Laws/State.lean ====
section
/-!
SUPPORT. One lemma per field per named update of State: what each update leaves alone, and what it sets. No later
proof unfolds a record update.
-/

namespace Sys2Proof.Machine

variable (s t : State)

/-! ### modZone -/

@[simp] theorem State.modZone_pending (z : Fin 24) (f : Zone → Zone) :
    (s.modZone z f).pending = s.pending := rfl
@[simp] theorem State.modZone_phase (z : Fin 24) (f : Zone → Zone) :
    (s.modZone z f).phase = s.phase := rfl
@[simp] theorem State.modZone_pfail (z : Fin 24) (f : Zone → Zone) :
    (s.modZone z f).pfail = s.pfail := rfl
@[simp] theorem State.modZone_lines (z : Fin 24) (f : Zone → Zone) :
    (s.modZone z f).lines = s.lines := rfl
@[simp] theorem State.modZone_inputs (z : Fin 24) (f : Zone → Zone) :
    (s.modZone z f).inputs = s.inputs := rfl
@[simp] theorem State.modZone_zones (z : Fin 24) (f : Zone → Zone) :
    (s.modZone z f).zones = s.zones.modify z f := rfl
@[simp] theorem State.modZone_heat (z : Fin 24) (f : Zone → Zone) :
    (s.modZone z f).heat = s.heat := rfl
@[simp] theorem State.modZone_alloc (z : Fin 24) (f : Zone → Zone) :
    (s.modZone z f).alloc = s.alloc := rfl
@[simp] theorem State.modZone_station (z : Fin 24) (f : Zone → Zone) :
    (s.modZone z f).station = s.station := rfl
@[simp] theorem State.modZone_presses (z : Fin 24) (f : Zone → Zone) :
    (s.modZone z f).presses = s.presses := rfl
@[simp] theorem State.modZone_image (z : Fin 24) (f : Zone → Zone) :
    (s.modZone z f).image = s.image := rfl
@[simp] theorem State.modZone_historyRaised (z : Fin 24) (f : Zone → Zone) :
    (s.modZone z f).historyRaised = s.historyRaised := rfl
@[simp] theorem State.modZone_snapshots (z : Fin 24) (f : Zone → Zone) :
    (s.modZone z f).snapshots = s.snapshots := rfl
@[simp] theorem State.modZone_retained (z : Fin 24) (f : Zone → Zone) :
    (s.modZone z f).retained = s.retained := rfl
@[simp] theorem State.modZone_clock (z : Fin 24) (f : Zone → Zone) :
    (s.modZone z f).clock = s.clock := rfl
@[simp] theorem State.modZone_link (z : Fin 24) (f : Zone → Zone) :
    (s.modZone z f).link = s.link := rfl
@[simp] theorem State.modZone_freeReads (z : Fin 24) (f : Zone → Zone) :
    (s.modZone z f).freeReads = s.freeReads := rfl

/-! ### modPress -/

@[simp] theorem State.modPress_pending (p : Fin 4) (f : Press → Press) :
    (s.modPress p f).pending = s.pending := rfl
@[simp] theorem State.modPress_phase (p : Fin 4) (f : Press → Press) :
    (s.modPress p f).phase = s.phase := rfl
@[simp] theorem State.modPress_pfail (p : Fin 4) (f : Press → Press) :
    (s.modPress p f).pfail = s.pfail := rfl
@[simp] theorem State.modPress_lines (p : Fin 4) (f : Press → Press) :
    (s.modPress p f).lines = s.lines := rfl
@[simp] theorem State.modPress_inputs (p : Fin 4) (f : Press → Press) :
    (s.modPress p f).inputs = s.inputs := rfl
@[simp] theorem State.modPress_zones (p : Fin 4) (f : Press → Press) :
    (s.modPress p f).zones = s.zones := rfl
@[simp] theorem State.modPress_heat (p : Fin 4) (f : Press → Press) :
    (s.modPress p f).heat = s.heat := rfl
@[simp] theorem State.modPress_alloc (p : Fin 4) (f : Press → Press) :
    (s.modPress p f).alloc = s.alloc := rfl
@[simp] theorem State.modPress_station (p : Fin 4) (f : Press → Press) :
    (s.modPress p f).station = s.station := rfl
@[simp] theorem State.modPress_presses (p : Fin 4) (f : Press → Press) :
    (s.modPress p f).presses = s.presses.modify p f := rfl
@[simp] theorem State.modPress_image (p : Fin 4) (f : Press → Press) :
    (s.modPress p f).image = s.image := rfl
@[simp] theorem State.modPress_historyRaised (p : Fin 4) (f : Press → Press) :
    (s.modPress p f).historyRaised = s.historyRaised := rfl
@[simp] theorem State.modPress_snapshots (p : Fin 4) (f : Press → Press) :
    (s.modPress p f).snapshots = s.snapshots := rfl
@[simp] theorem State.modPress_retained (p : Fin 4) (f : Press → Press) :
    (s.modPress p f).retained = s.retained := rfl
@[simp] theorem State.modPress_clock (p : Fin 4) (f : Press → Press) :
    (s.modPress p f).clock = s.clock := rfl
@[simp] theorem State.modPress_link (p : Fin 4) (f : Press → Press) :
    (s.modPress p f).link = s.link := rfl
@[simp] theorem State.modPress_freeReads (p : Fin 4) (f : Press → Press) :
    (s.modPress p f).freeReads = s.freeReads := rfl

/-! ### modHeat -/

@[simp] theorem State.modHeat_pending (p : Fin 4) (f : PressHeat → PressHeat) :
    (s.modHeat p f).pending = s.pending := rfl
@[simp] theorem State.modHeat_phase (p : Fin 4) (f : PressHeat → PressHeat) :
    (s.modHeat p f).phase = s.phase := rfl
@[simp] theorem State.modHeat_pfail (p : Fin 4) (f : PressHeat → PressHeat) :
    (s.modHeat p f).pfail = s.pfail := rfl
@[simp] theorem State.modHeat_lines (p : Fin 4) (f : PressHeat → PressHeat) :
    (s.modHeat p f).lines = s.lines := rfl
@[simp] theorem State.modHeat_inputs (p : Fin 4) (f : PressHeat → PressHeat) :
    (s.modHeat p f).inputs = s.inputs := rfl
@[simp] theorem State.modHeat_zones (p : Fin 4) (f : PressHeat → PressHeat) :
    (s.modHeat p f).zones = s.zones := rfl
@[simp] theorem State.modHeat_heat (p : Fin 4) (f : PressHeat → PressHeat) :
    (s.modHeat p f).heat = s.heat.modify p f := rfl
@[simp] theorem State.modHeat_alloc (p : Fin 4) (f : PressHeat → PressHeat) :
    (s.modHeat p f).alloc = s.alloc := rfl
@[simp] theorem State.modHeat_station (p : Fin 4) (f : PressHeat → PressHeat) :
    (s.modHeat p f).station = s.station := rfl
@[simp] theorem State.modHeat_presses (p : Fin 4) (f : PressHeat → PressHeat) :
    (s.modHeat p f).presses = s.presses := rfl
@[simp] theorem State.modHeat_image (p : Fin 4) (f : PressHeat → PressHeat) :
    (s.modHeat p f).image = s.image := rfl
@[simp] theorem State.modHeat_historyRaised (p : Fin 4) (f : PressHeat → PressHeat) :
    (s.modHeat p f).historyRaised = s.historyRaised := rfl
@[simp] theorem State.modHeat_snapshots (p : Fin 4) (f : PressHeat → PressHeat) :
    (s.modHeat p f).snapshots = s.snapshots := rfl
@[simp] theorem State.modHeat_retained (p : Fin 4) (f : PressHeat → PressHeat) :
    (s.modHeat p f).retained = s.retained := rfl
@[simp] theorem State.modHeat_clock (p : Fin 4) (f : PressHeat → PressHeat) :
    (s.modHeat p f).clock = s.clock := rfl
@[simp] theorem State.modHeat_link (p : Fin 4) (f : PressHeat → PressHeat) :
    (s.modHeat p f).link = s.link := rfl
@[simp] theorem State.modHeat_freeReads (p : Fin 4) (f : PressHeat → PressHeat) :
    (s.modHeat p f).freeReads = s.freeReads := rfl

/-! ### modStation -/

@[simp] theorem State.modStation_pending (f : Station → Station) :
    (s.modStation f).pending = s.pending := rfl
@[simp] theorem State.modStation_phase (f : Station → Station) :
    (s.modStation f).phase = s.phase := rfl
@[simp] theorem State.modStation_pfail (f : Station → Station) :
    (s.modStation f).pfail = s.pfail := rfl
@[simp] theorem State.modStation_lines (f : Station → Station) :
    (s.modStation f).lines = s.lines := rfl
@[simp] theorem State.modStation_inputs (f : Station → Station) :
    (s.modStation f).inputs = s.inputs := rfl
@[simp] theorem State.modStation_zones (f : Station → Station) :
    (s.modStation f).zones = s.zones := rfl
@[simp] theorem State.modStation_heat (f : Station → Station) :
    (s.modStation f).heat = s.heat := rfl
@[simp] theorem State.modStation_alloc (f : Station → Station) :
    (s.modStation f).alloc = s.alloc := rfl
@[simp] theorem State.modStation_station (f : Station → Station) :
    (s.modStation f).station = f s.station := rfl
@[simp] theorem State.modStation_presses (f : Station → Station) :
    (s.modStation f).presses = s.presses := rfl
@[simp] theorem State.modStation_image (f : Station → Station) :
    (s.modStation f).image = s.image := rfl
@[simp] theorem State.modStation_historyRaised (f : Station → Station) :
    (s.modStation f).historyRaised = s.historyRaised := rfl
@[simp] theorem State.modStation_snapshots (f : Station → Station) :
    (s.modStation f).snapshots = s.snapshots := rfl
@[simp] theorem State.modStation_retained (f : Station → Station) :
    (s.modStation f).retained = s.retained := rfl
@[simp] theorem State.modStation_clock (f : Station → Station) :
    (s.modStation f).clock = s.clock := rfl
@[simp] theorem State.modStation_link (f : Station → Station) :
    (s.modStation f).link = s.link := rfl
@[simp] theorem State.modStation_freeReads (f : Station → Station) :
    (s.modStation f).freeReads = s.freeReads := rfl

/-! ### modLink -/

@[simp] theorem State.modLink_pending (f : Link → Link) :
    (s.modLink f).pending = s.pending := rfl
@[simp] theorem State.modLink_phase (f : Link → Link) :
    (s.modLink f).phase = s.phase := rfl
@[simp] theorem State.modLink_pfail (f : Link → Link) :
    (s.modLink f).pfail = s.pfail := rfl
@[simp] theorem State.modLink_lines (f : Link → Link) :
    (s.modLink f).lines = s.lines := rfl
@[simp] theorem State.modLink_inputs (f : Link → Link) :
    (s.modLink f).inputs = s.inputs := rfl
@[simp] theorem State.modLink_zones (f : Link → Link) :
    (s.modLink f).zones = s.zones := rfl
@[simp] theorem State.modLink_heat (f : Link → Link) :
    (s.modLink f).heat = s.heat := rfl
@[simp] theorem State.modLink_alloc (f : Link → Link) :
    (s.modLink f).alloc = s.alloc := rfl
@[simp] theorem State.modLink_station (f : Link → Link) :
    (s.modLink f).station = s.station := rfl
@[simp] theorem State.modLink_presses (f : Link → Link) :
    (s.modLink f).presses = s.presses := rfl
@[simp] theorem State.modLink_image (f : Link → Link) :
    (s.modLink f).image = s.image := rfl
@[simp] theorem State.modLink_historyRaised (f : Link → Link) :
    (s.modLink f).historyRaised = s.historyRaised := rfl
@[simp] theorem State.modLink_snapshots (f : Link → Link) :
    (s.modLink f).snapshots = s.snapshots := rfl
@[simp] theorem State.modLink_retained (f : Link → Link) :
    (s.modLink f).retained = s.retained := rfl
@[simp] theorem State.modLink_clock (f : Link → Link) :
    (s.modLink f).clock = s.clock := rfl
@[simp] theorem State.modLink_link (f : Link → Link) :
    (s.modLink f).link = f s.link := rfl
@[simp] theorem State.modLink_freeReads (f : Link → Link) :
    (s.modLink f).freeReads = s.freeReads := rfl

/-! ### modRetained -/

@[simp] theorem State.modRetained_pending (f : Retained → Retained) :
    (s.modRetained f).pending = s.pending := rfl
@[simp] theorem State.modRetained_phase (f : Retained → Retained) :
    (s.modRetained f).phase = s.phase := rfl
@[simp] theorem State.modRetained_pfail (f : Retained → Retained) :
    (s.modRetained f).pfail = s.pfail := rfl
@[simp] theorem State.modRetained_lines (f : Retained → Retained) :
    (s.modRetained f).lines = s.lines := rfl
@[simp] theorem State.modRetained_inputs (f : Retained → Retained) :
    (s.modRetained f).inputs = s.inputs := rfl
@[simp] theorem State.modRetained_zones (f : Retained → Retained) :
    (s.modRetained f).zones = s.zones := rfl
@[simp] theorem State.modRetained_heat (f : Retained → Retained) :
    (s.modRetained f).heat = s.heat := rfl
@[simp] theorem State.modRetained_alloc (f : Retained → Retained) :
    (s.modRetained f).alloc = s.alloc := rfl
@[simp] theorem State.modRetained_station (f : Retained → Retained) :
    (s.modRetained f).station = s.station := rfl
@[simp] theorem State.modRetained_presses (f : Retained → Retained) :
    (s.modRetained f).presses = s.presses := rfl
@[simp] theorem State.modRetained_image (f : Retained → Retained) :
    (s.modRetained f).image = s.image := rfl
@[simp] theorem State.modRetained_historyRaised (f : Retained → Retained) :
    (s.modRetained f).historyRaised = s.historyRaised := rfl
@[simp] theorem State.modRetained_snapshots (f : Retained → Retained) :
    (s.modRetained f).snapshots = s.snapshots := rfl
@[simp] theorem State.modRetained_retained (f : Retained → Retained) :
    (s.modRetained f).retained = f s.retained := rfl
@[simp] theorem State.modRetained_clock (f : Retained → Retained) :
    (s.modRetained f).clock = s.clock := rfl
@[simp] theorem State.modRetained_link (f : Retained → Retained) :
    (s.modRetained f).link = s.link := rfl
@[simp] theorem State.modRetained_freeReads (f : Retained → Retained) :
    (s.modRetained f).freeReads = s.freeReads := rfl

/-! ### writeImage -/

@[simp] theorem State.writeImage_pending (f : Image → Image) :
    (s.writeImage f).pending = s.pending := rfl
@[simp] theorem State.writeImage_phase (f : Image → Image) :
    (s.writeImage f).phase = s.phase := rfl
@[simp] theorem State.writeImage_pfail (f : Image → Image) :
    (s.writeImage f).pfail = s.pfail := rfl
@[simp] theorem State.writeImage_lines (f : Image → Image) :
    (s.writeImage f).lines = s.lines := rfl
@[simp] theorem State.writeImage_inputs (f : Image → Image) :
    (s.writeImage f).inputs = s.inputs := rfl
@[simp] theorem State.writeImage_zones (f : Image → Image) :
    (s.writeImage f).zones = s.zones := rfl
@[simp] theorem State.writeImage_heat (f : Image → Image) :
    (s.writeImage f).heat = s.heat := rfl
@[simp] theorem State.writeImage_alloc (f : Image → Image) :
    (s.writeImage f).alloc = s.alloc := rfl
@[simp] theorem State.writeImage_station (f : Image → Image) :
    (s.writeImage f).station = s.station := rfl
@[simp] theorem State.writeImage_presses (f : Image → Image) :
    (s.writeImage f).presses = s.presses := rfl
@[simp] theorem State.writeImage_image (f : Image → Image) :
    (s.writeImage f).image = f s.image := rfl
@[simp] theorem State.writeImage_historyRaised (f : Image → Image) :
    (s.writeImage f).historyRaised = s.historyRaised := rfl
@[simp] theorem State.writeImage_snapshots (f : Image → Image) :
    (s.writeImage f).snapshots = s.snapshots := rfl
@[simp] theorem State.writeImage_retained (f : Image → Image) :
    (s.writeImage f).retained = { s.retained with generation := nextGeneration s.retained.generation } := rfl
@[simp] theorem State.writeImage_clock (f : Image → Image) :
    (s.writeImage f).clock = s.clock := rfl
@[simp] theorem State.writeImage_link (f : Image → Image) :
    (s.writeImage f).link = s.link := rfl
@[simp] theorem State.writeImage_freeReads (f : Image → Image) :
    (s.writeImage f).freeReads = s.freeReads := rfl

/-! ### startStore -/

@[simp] theorem State.startStore_pending :
    (s.startStore).pending = s.pending := rfl
@[simp] theorem State.startStore_phase :
    (s.startStore).phase = s.phase := rfl
@[simp] theorem State.startStore_pfail :
    (s.startStore).pfail = s.pfail := rfl
@[simp] theorem State.startStore_lines :
    (s.startStore).lines = s.lines := rfl
@[simp] theorem State.startStore_inputs :
    (s.startStore).inputs = s.inputs := rfl
@[simp] theorem State.startStore_zones :
    (s.startStore).zones = s.zones := rfl
@[simp] theorem State.startStore_heat :
    (s.startStore).heat = s.heat := rfl
@[simp] theorem State.startStore_alloc :
    (s.startStore).alloc = s.alloc := rfl
@[simp] theorem State.startStore_station :
    (s.startStore).station = s.station := rfl
@[simp] theorem State.startStore_presses :
    (s.startStore).presses = s.presses := rfl
@[simp] theorem State.startStore_image :
    (s.startStore).image = s.image := rfl
@[simp] theorem State.startStore_historyRaised :
    (s.startStore).historyRaised = s.historyRaised := rfl
@[simp] theorem State.startStore_snapshots :
    (s.startStore).snapshots = s.snapshots := rfl
@[simp] theorem State.startStore_retained :
    (s.startStore).retained = { s.retained with store := some ⟨s.image, s.retained.generation⟩ } := rfl
@[simp] theorem State.startStore_clock :
    (s.startStore).clock = s.clock := rfl
@[simp] theorem State.startStore_link :
    (s.startStore).link = s.link := rfl
@[simp] theorem State.startStore_freeReads :
    (s.startStore).freeReads = s.freeReads := rfl

/-! ### startPeriodic -/

@[simp] theorem State.startPeriodic_pending :
    (s.startPeriodic).pending = s.pending := rfl
@[simp] theorem State.startPeriodic_phase :
    (s.startPeriodic).phase = s.phase := rfl
@[simp] theorem State.startPeriodic_pfail :
    (s.startPeriodic).pfail = s.pfail := rfl
@[simp] theorem State.startPeriodic_lines :
    (s.startPeriodic).lines = s.lines := rfl
@[simp] theorem State.startPeriodic_inputs :
    (s.startPeriodic).inputs = s.inputs := rfl
@[simp] theorem State.startPeriodic_zones :
    (s.startPeriodic).zones = s.zones := rfl
@[simp] theorem State.startPeriodic_heat :
    (s.startPeriodic).heat = s.heat := rfl
@[simp] theorem State.startPeriodic_alloc :
    (s.startPeriodic).alloc = s.alloc := rfl
@[simp] theorem State.startPeriodic_station :
    (s.startPeriodic).station = s.station := rfl
@[simp] theorem State.startPeriodic_presses :
    (s.startPeriodic).presses = s.presses := rfl
@[simp] theorem State.startPeriodic_image :
    (s.startPeriodic).image = s.image := rfl
@[simp] theorem State.startPeriodic_historyRaised :
    (s.startPeriodic).historyRaised = s.historyRaised := rfl
@[simp] theorem State.startPeriodic_snapshots :
    (s.startPeriodic).snapshots = s.snapshots := rfl
@[simp] theorem State.startPeriodic_retained :
    (s.startPeriodic).retained = { s.retained with periodic := startTimer s.image.settings.storeInterval } := rfl
@[simp] theorem State.startPeriodic_clock :
    (s.startPeriodic).clock = s.clock := rfl
@[simp] theorem State.startPeriodic_link :
    (s.startPeriodic).link = s.link := rfl
@[simp] theorem State.startPeriodic_freeReads :
    (s.startPeriodic).freeReads = s.freeReads := rfl

/-! ### discardFrame -/

@[simp] theorem State.discardFrame_pending :
    (s.discardFrame).pending = s.pending := rfl
@[simp] theorem State.discardFrame_phase :
    (s.discardFrame).phase = s.phase := rfl
@[simp] theorem State.discardFrame_pfail :
    (s.discardFrame).pfail = s.pfail := rfl
@[simp] theorem State.discardFrame_lines :
    (s.discardFrame).lines = s.lines := rfl
@[simp] theorem State.discardFrame_inputs :
    (s.discardFrame).inputs = s.inputs := rfl
@[simp] theorem State.discardFrame_zones :
    (s.discardFrame).zones = s.zones := rfl
@[simp] theorem State.discardFrame_heat :
    (s.discardFrame).heat = s.heat := rfl
@[simp] theorem State.discardFrame_alloc :
    (s.discardFrame).alloc = s.alloc := rfl
@[simp] theorem State.discardFrame_station :
    (s.discardFrame).station = s.station := rfl
@[simp] theorem State.discardFrame_presses :
    (s.discardFrame).presses = s.presses := rfl
@[simp] theorem State.discardFrame_image :
    (s.discardFrame).image = s.image := rfl
@[simp] theorem State.discardFrame_historyRaised :
    (s.discardFrame).historyRaised = s.historyRaised := rfl
@[simp] theorem State.discardFrame_snapshots :
    (s.discardFrame).snapshots = s.snapshots := rfl
@[simp] theorem State.discardFrame_retained :
    (s.discardFrame).retained = s.retained := rfl
@[simp] theorem State.discardFrame_clock :
    (s.discardFrame).clock = s.clock := rfl
@[simp] theorem State.discardFrame_link :
    (s.discardFrame).link = { s.link with discarded := satAdd 65535 s.link.discarded 1 } := rfl
@[simp] theorem State.discardFrame_freeReads :
    (s.discardFrame).freeReads = s.freeReads := rfl

/-! ### raise -/

@[simp] theorem State.raise_pending (src : Source) (k : EventKind) :
    (s.raise src k).pending = s.pending := by
  rfl
@[simp] theorem State.raise_phase (src : Source) (k : EventKind) :
    (s.raise src k).phase = s.phase := by
  rfl
@[simp] theorem State.raise_pfail (src : Source) (k : EventKind) :
    (s.raise src k).pfail = s.pfail := by
  rfl
@[simp] theorem State.raise_lines (src : Source) (k : EventKind) :
    (s.raise src k).lines = s.lines := by
  rfl
@[simp] theorem State.raise_inputs (src : Source) (k : EventKind) :
    (s.raise src k).inputs = s.inputs := by
  rfl
@[simp] theorem State.raise_zones (src : Source) (k : EventKind) :
    (s.raise src k).zones = s.zones := by
  rfl
@[simp] theorem State.raise_heat (src : Source) (k : EventKind) :
    (s.raise src k).heat = s.heat := by
  rfl
@[simp] theorem State.raise_alloc (src : Source) (k : EventKind) :
    (s.raise src k).alloc = s.alloc := by
  rfl
@[simp] theorem State.raise_station (src : Source) (k : EventKind) :
    (s.raise src k).station = s.station := by
  rfl
@[simp] theorem State.raise_presses (src : Source) (k : EventKind) :
    (s.raise src k).presses = s.presses := by
  rfl
@[simp] theorem State.raise_image (src : Source) (k : EventKind) :
    (s.raise src k).image = s.image := by
  rfl
@[simp] theorem State.raise_historyRaised (src : Source) (k : EventKind) :
    (s.raise src k).historyRaised = s.historyRaised := by
  rfl
@[simp] theorem State.raise_snapshots (src : Source) (k : EventKind) :
    (s.raise src k).snapshots = s.snapshots := by
  rfl
@[simp] theorem State.raise_retained (src : Source) (k : EventKind) :
    (s.raise src k).retained = s.retained := by
  rfl
@[simp] theorem State.raise_clock (src : Source) (k : EventKind) :
    (s.raise src k).clock = s.clock := by
  rfl
@[simp] theorem State.raise_freeReads (src : Source) (k : EventKind) :
    (s.raise src k).freeReads = s.freeReads := by
  rfl

/-! ### answer -/

@[simp] theorem State.answer_pending (st : Status) (data : List Byte) :
    (s.answer st data).pending = s.pending := by
  unfold State.answer; split <;> rfl
@[simp] theorem State.answer_phase (st : Status) (data : List Byte) :
    (s.answer st data).phase = s.phase := by
  unfold State.answer; split <;> rfl
@[simp] theorem State.answer_pfail (st : Status) (data : List Byte) :
    (s.answer st data).pfail = s.pfail := by
  unfold State.answer; split <;> rfl
@[simp] theorem State.answer_lines (st : Status) (data : List Byte) :
    (s.answer st data).lines = s.lines := by
  unfold State.answer; split <;> rfl
@[simp] theorem State.answer_inputs (st : Status) (data : List Byte) :
    (s.answer st data).inputs = s.inputs := by
  unfold State.answer; split <;> rfl
@[simp] theorem State.answer_zones (st : Status) (data : List Byte) :
    (s.answer st data).zones = s.zones := by
  unfold State.answer; split <;> rfl
@[simp] theorem State.answer_heat (st : Status) (data : List Byte) :
    (s.answer st data).heat = s.heat := by
  unfold State.answer; split <;> rfl
@[simp] theorem State.answer_alloc (st : Status) (data : List Byte) :
    (s.answer st data).alloc = s.alloc := by
  unfold State.answer; split <;> rfl
@[simp] theorem State.answer_station (st : Status) (data : List Byte) :
    (s.answer st data).station = s.station := by
  unfold State.answer; split <;> rfl
@[simp] theorem State.answer_presses (st : Status) (data : List Byte) :
    (s.answer st data).presses = s.presses := by
  unfold State.answer; split <;> rfl
@[simp] theorem State.answer_image (st : Status) (data : List Byte) :
    (s.answer st data).image = s.image := by
  unfold State.answer; split <;> rfl
@[simp] theorem State.answer_historyRaised (st : Status) (data : List Byte) :
    (s.answer st data).historyRaised = s.historyRaised := by
  unfold State.answer; split <;> rfl
@[simp] theorem State.answer_snapshots (st : Status) (data : List Byte) :
    (s.answer st data).snapshots = s.snapshots := by
  unfold State.answer; split <;> rfl
@[simp] theorem State.answer_retained (st : Status) (data : List Byte) :
    (s.answer st data).retained = s.retained := by
  unfold State.answer; split <;> rfl
@[simp] theorem State.answer_clock (st : Status) (data : List Byte) :
    (s.answer st data).clock = s.clock := by
  unfold State.answer; split <;> rfl
@[simp] theorem State.answer_freeReads (st : Status) (data : List Byte) :
    (s.answer st data).freeReads = s.freeReads := by
  unfold State.answer; split <;> rfl

/-! ### pump -/

@[simp] theorem State.pump_pending :
    s.pump.pending = s.pending := by
  unfold State.pump; split <;> rfl
@[simp] theorem State.pump_phase :
    s.pump.phase = s.phase := by
  unfold State.pump; split <;> rfl
@[simp] theorem State.pump_pfail :
    s.pump.pfail = s.pfail := by
  unfold State.pump; split <;> rfl
@[simp] theorem State.pump_lines :
    s.pump.lines = s.lines := by
  unfold State.pump; split <;> rfl
@[simp] theorem State.pump_inputs :
    s.pump.inputs = s.inputs := by
  unfold State.pump; split <;> rfl
@[simp] theorem State.pump_zones :
    s.pump.zones = s.zones := by
  unfold State.pump; split <;> rfl
@[simp] theorem State.pump_heat :
    s.pump.heat = s.heat := by
  unfold State.pump; split <;> rfl
@[simp] theorem State.pump_alloc :
    s.pump.alloc = s.alloc := by
  unfold State.pump; split <;> rfl
@[simp] theorem State.pump_station :
    s.pump.station = s.station := by
  unfold State.pump; split <;> rfl
@[simp] theorem State.pump_presses :
    s.pump.presses = s.presses := by
  unfold State.pump; split <;> rfl
@[simp] theorem State.pump_image :
    s.pump.image = s.image := by
  unfold State.pump; split <;> rfl
@[simp] theorem State.pump_historyRaised :
    s.pump.historyRaised = s.historyRaised := by
  unfold State.pump; split <;> rfl
@[simp] theorem State.pump_snapshots :
    s.pump.snapshots = s.snapshots := by
  unfold State.pump; split <;> rfl
@[simp] theorem State.pump_retained :
    s.pump.retained = s.retained := by
  unfold State.pump; split <;> rfl
@[simp] theorem State.pump_clock :
    s.pump.clock = s.clock := by
  unfold State.pump; split <;> rfl
@[simp] theorem State.pump_freeReads :
    s.pump.freeReads = s.freeReads := by
  unfold State.pump; split <;> rfl

/-! ### historyTest -/

@[simp] theorem State.historyTest_pending :
    s.historyTest.pending = s.pending := by
  unfold State.historyTest; split
  · split <;> rfl
  · rfl
@[simp] theorem State.historyTest_phase :
    s.historyTest.phase = s.phase := by
  unfold State.historyTest; split
  · split <;> rfl
  · rfl
@[simp] theorem State.historyTest_pfail :
    s.historyTest.pfail = s.pfail := by
  unfold State.historyTest; split
  · split <;> rfl
  · rfl
@[simp] theorem State.historyTest_lines :
    s.historyTest.lines = s.lines := by
  unfold State.historyTest; split
  · split <;> rfl
  · rfl
@[simp] theorem State.historyTest_inputs :
    s.historyTest.inputs = s.inputs := by
  unfold State.historyTest; split
  · split <;> rfl
  · rfl
@[simp] theorem State.historyTest_zones :
    s.historyTest.zones = s.zones := by
  unfold State.historyTest; split
  · split <;> rfl
  · rfl
@[simp] theorem State.historyTest_heat :
    s.historyTest.heat = s.heat := by
  unfold State.historyTest; split
  · split <;> rfl
  · rfl
@[simp] theorem State.historyTest_alloc :
    s.historyTest.alloc = s.alloc := by
  unfold State.historyTest; split
  · split <;> rfl
  · rfl
@[simp] theorem State.historyTest_station :
    s.historyTest.station = s.station := by
  unfold State.historyTest; split
  · split <;> rfl
  · rfl
@[simp] theorem State.historyTest_presses :
    s.historyTest.presses = s.presses := by
  unfold State.historyTest; split
  · split <;> rfl
  · rfl
@[simp] theorem State.historyTest_image :
    s.historyTest.image = s.image := by
  unfold State.historyTest; split
  · split <;> rfl
  · rfl
@[simp] theorem State.historyTest_snapshots :
    s.historyTest.snapshots = s.snapshots := by
  unfold State.historyTest; split
  · split <;> rfl
  · rfl
@[simp] theorem State.historyTest_retained :
    s.historyTest.retained = s.retained := by
  unfold State.historyTest; split
  · split <;> rfl
  · rfl
@[simp] theorem State.historyTest_clock :
    s.historyTest.clock = s.clock := by
  unfold State.historyTest; split
  · split <;> rfl
  · rfl
@[simp] theorem State.historyTest_freeReads :
    s.historyTest.freeReads = s.freeReads := by
  unfold State.historyTest; split
  · split <;> rfl
  · rfl

/-! ### oneChange -/

@[simp] theorem oneChange_pending : (oneChange s t).pending = t.pending := by
  unfold oneChange; split <;> rfl
@[simp] theorem oneChange_phase : (oneChange s t).phase = t.phase := by
  unfold oneChange; split <;> rfl
@[simp] theorem oneChange_pfail : (oneChange s t).pfail = t.pfail := by
  unfold oneChange; split <;> rfl
@[simp] theorem oneChange_lines : (oneChange s t).lines = t.lines := by
  unfold oneChange; split <;> rfl
@[simp] theorem oneChange_inputs : (oneChange s t).inputs = t.inputs := by
  unfold oneChange; split <;> rfl
@[simp] theorem oneChange_zones : (oneChange s t).zones = t.zones := by
  unfold oneChange; split <;> rfl
@[simp] theorem oneChange_heat : (oneChange s t).heat = t.heat := by
  unfold oneChange; split <;> rfl
@[simp] theorem oneChange_alloc : (oneChange s t).alloc = t.alloc := by
  unfold oneChange; split <;> rfl
@[simp] theorem oneChange_station : (oneChange s t).station = t.station := by
  unfold oneChange; split <;> rfl
@[simp] theorem oneChange_presses : (oneChange s t).presses = t.presses := by
  unfold oneChange; split <;> rfl
@[simp] theorem oneChange_image : (oneChange s t).image = t.image := by
  unfold oneChange; split <;> rfl
@[simp] theorem oneChange_historyRaised : (oneChange s t).historyRaised = t.historyRaised := by
  unfold oneChange; split <;> rfl
@[simp] theorem oneChange_snapshots : (oneChange s t).snapshots = t.snapshots := by
  unfold oneChange; split <;> rfl
@[simp] theorem oneChange_clock : (oneChange s t).clock = t.clock := by
  unfold oneChange; split <;> rfl
@[simp] theorem oneChange_link : (oneChange s t).link = t.link := by
  unfold oneChange; split <;> rfl
@[simp] theorem oneChange_freeReads : (oneChange s t).freeReads = t.freeReads := by
  unfold oneChange; split <;> rfl

/-! ### The entries that the indexed updates change -/

@[simp] theorem State.press_modPress (p : Fin 4) (f : Press → Press) : (s.modPress p f).press p = f (s.press p) := by
  simp [State.press]

@[simp] theorem State.press_modPress_other {p q : Fin 4} (h : q ≠ p) (f : Press → Press) :
    (s.modPress p f).press q = s.press q := by
  simp [State.press, h]

@[simp] theorem State.zone_modZone (z : Fin 24) (f : Zone → Zone) : (s.modZone z f).zone z = f (s.zone z) := by
  simp [State.zone]

@[simp] theorem State.zone_modZone_other {z y : Fin 24} (h : y ≠ z) (f : Zone → Zone) :
    (s.modZone z f).zone y = s.zone y := by
  simp [State.zone, h]

@[simp] theorem State.pressHeat_modHeat (p : Fin 4) (f : PressHeat → PressHeat) :
    (s.modHeat p f).pressHeat p = f (s.pressHeat p) := by
  simp [State.pressHeat]

@[simp] theorem State.pressHeat_modHeat_other {p q : Fin 4} (h : q ≠ p) (f : PressHeat → PressHeat) :
    (s.modHeat p f).pressHeat q = s.pressHeat q := by
  simp [State.pressHeat, h]

end Sys2Proof.Machine
end

