-- ==== Sys2Proof/Laws/Link.lean ====
section
/-!
SUPPORT. What the shared operations of the link can do, said once each: raising, answering, pumping, hearing a
frame, and serving a request.
-/

namespace Sys2Proof.Machine

/-! ## Each link operation changes the Link Port only -/

theorem State.modLink_eq (s : State) (f : Link → Link) : s.modLink f = { s with link := f s.link } := rfl

theorem State.raise_eq (s : State) (src : Source) (k : EventKind) :
    s.raise src k = { s with link := (s.raise src k).link } := rfl

theorem State.answer_eq (s : State) (st : Status) (data : List Byte) :
    s.answer st data = { s with link := (s.answer st data).link } := by
  unfold State.answer; split <;> rfl

theorem State.pump_eq (s : State) : s.pump = { s with link := s.pump.link } := by
  unfold State.pump; split <;> rfl

theorem State.historyTest_eq (s : State) :
    s.historyTest = { s with historyRaised := s.historyTest.historyRaised, link := s.historyTest.link } := by
  unfold State.historyTest
  split
  · split <;> rfl
  · rfl

/-- `oneChange` changes the change generation only. -/
theorem oneChange_eq (s t : State) :
    oneChange s t =
      { t with retained := { t.retained with generation := (oneChange s t).retained.generation } } := by
  unfold oneChange; split <;> rfl

theorem State.answerAtOnce_eq (s : State) (kind tag : Byte) (body : List Byte) (st : Status) :
    s.answerAtOnce kind tag body st = { s with link := (s.answerAtOnce kind tag body st).link } := rfl

theorem State.goodFrame_eq (s : State) (kind tag : Byte) (body : List Byte) :
    s.goodFrame kind tag body = { s with link := (s.goodFrame kind tag body).link } := by
  unfold State.goodFrame
  repeat' split
  all_goals rfl

theorem State.overLengthFrame_eq (s : State) (kind tag : Byte) :
    s.overLengthFrame kind tag = { s with link := (s.overLengthFrame kind tag).link } := by
  unfold State.overLengthFrame
  split
  · exact State.answerAtOnce_eq ..
  · rfl

theorem State.acceptHeard_eq (s : State) (h : Option Heard) :
    s.acceptHeard h = { s with link := (s.acceptHeard h).link } := by
  unfold State.acceptHeard
  split
  · rfl
  · exact State.goodFrame_eq ..
  · rfl
  · exact State.overLengthFrame_eq ..

theorem State.hearByte_eq (s : State) (b : Byte) : s.hearByte b = { s with link := (s.hearByte b).link } := by
  unfold State.hearByte
  rw [State.acceptHeard_eq]
  rfl

/-- Hearing bytes changes the Link Port only. -/
theorem State.hear_eq (s : State) (bytes : List Byte) :
    s.hear bytes = { s with link := (s.hear bytes).link } := by
  unfold State.hear
  induction bytes generalizing s with
  | nil => rfl
  | cons b rest ih =>
    rw [List.foldl_cons, ih, State.hearByte_eq]

theorem State.abandonFrame_eq (s : State) : s.abandonFrame = { s with link := s.abandonFrame.link } := by
  unfold State.abandonFrame; split <;> rfl

/-! ## A notice being offered or withdrawn leaves the reply alone -/

/-- What `startFrame` leaves alone. -/
theorem Link.startFrame_frame (l : Link) :
    l.startFrame.rate = l.rate ∧ l.startFrame.receiver = l.receiver ∧ l.startFrame.inHand = l.inHand ∧
      l.startFrame.discarded = l.discarded ∧ l.startFrame.pending = l.pending ∧ l.startFrame.mask = l.mask := by
  unfold Link.startFrame
  repeat' split
  all_goals simp

/-- What `offerNotice` leaves alone. -/
theorem Link.offerNotice_frame (l : Link) :
    l.offerNotice.rate = l.rate ∧ l.offerNotice.receiver = l.receiver ∧ l.offerNotice.inHand = l.inHand ∧
      l.offerNotice.transmission = l.transmission ∧ l.offerNotice.reply = l.reply ∧
      l.offerNotice.discarded = l.discarded ∧ l.offerNotice.pending = l.pending ∧ l.offerNotice.mask = l.mask := by
  unfold Link.offerNotice; split <;> simp

/-- What raising an event leaves alone in the Link Port. -/
theorem State.raise_link_frame (s : State) (src : Source) (k : EventKind) :
    (s.raise src k).link.rate = s.link.rate ∧ (s.raise src k).link.receiver = s.link.receiver ∧
      (s.raise src k).link.inHand = s.link.inHand ∧ (s.raise src k).link.transmission = s.link.transmission ∧
      (s.raise src k).link.reply = s.link.reply ∧ (s.raise src k).link.discarded = s.link.discarded ∧
      (s.raise src k).link.mask = s.link.mask := by
  unfold State.raise
  dsimp only
  split <;> simp [Link.offerNotice_frame]

/-- Raising an event adds its kind to its source's pending set and to no other (R196). -/
theorem State.raise_link_pending (s : State) (src : Source) (k : EventKind) :
    (s.raise src k).link.pending = s.link.pending.modify src.index (addKind k) := by
  unfold State.raise
  dsimp only
  split <;> simp [Link.offerNotice_frame]

theorem mem_addKind {j k : EventKind} {set : List EventKind} : j ∈ addKind k set ↔ j = k ∨ j ∈ set := by
  unfold addKind
  have h : j ∈ EventKind.all := by cases j <;> decide
  simp [h]

/-! ## Answering (R194, R195) -/

/-- A part that receives starts frames too. -/
theorem Phase.notices_of_receives {f : Phase} (h : f.receives = true) : f.notices = true := by
  cases f <;> simp_all [Phase.receives, Phase.notices]

/-- STARTING is answered exactly while a start-up recalls or waits (R153, R203). -/
theorem Phase.starting_iff {f : Phase} : f.starting = true ↔ f = .recalling ∨ f = .waiting := by
  cases f <;> simp [Phase.starting]

/-- A handed request answered, and the transmitter pumped: the Link Port has replied. -/
theorem State.pump_answer {s : State} {kind tag : Byte} {body : List Byte} {g : Stage}
    (hp : s.phase.notices = true) (hi : s.link.inHand = some ⟨kind, tag, body, g⟩) (st : Status)
    (data : List Byte) : (s.answer st data).pump = s.repliedTo kind tag body st data := by
  unfold State.answer
  rw [hi]
  unfold State.pump State.modLink State.repliedTo Link.repliedTo Link.withReply Link.startFrame
  simp only [hp, if_true]
  cases s.link.transmission <;> simp

/-- One change, an answer and the pump, for an owner that has left the request in hand. -/
theorem State.taken_answer {s u : State} {kind tag : Byte} {body : List Byte} {g : Stage}
    (hp : u.phase = .running) (hi : u.link.inHand = some ⟨kind, tag, body, g⟩) (st : Status)
    (data : List Byte) :
    (oneChange s (u.answer st data)).pump = (oneChange s u).repliedTo kind tag body st data := by
  have e : oneChange s (u.answer st data) = (oneChange s u).answer st data := by
    unfold oneChange
    simp only [State.answer_retained]
    split
    · rfl
    · unfold State.answer
      simp only [State.modRetained_link]
      split <;> rfl
  rw [e]
  exact State.pump_answer (by simp [hp, Phase.notices]) (by simpa using hi) st data

@[simp] theorem oneChange_self (s : State) : oneChange s s = s := by simp [oneChange]

theorem nextGeneration_ne (g : Nat) : nextGeneration g ≠ g := by
  unfold nextGeneration
  omega

/-- Writes that have moved the generation by one, or not at all, are one change as they stand. -/
theorem oneChange_of {s t : State}
    (h : t.retained.generation = s.retained.generation ∨
      t.retained.generation = nextGeneration s.retained.generation) : oneChange s t = t := by
  unfold oneChange
  split
  · rfl
  · rcases h with h | h
    · contradiction
    · cases t; simp [State.modRetained, ← h]

/-- After `oneChange` the generation has moved by one, or not at all. -/
theorem oneChange_generation (s t : State) :
    (oneChange s t).retained.generation =
      if t.retained.generation = s.retained.generation then s.retained.generation
      else nextGeneration s.retained.generation := by
  unfold oneChange
  split <;> simp_all

/-! ## Serving -/

theorem State.holdsNow_iff (s : State) (kind tag : Byte) (body : List Byte) :
    s.holdsNow kind tag body = true ↔ s.holds kind tag body := by
  simp [State.holdsNow, State.holds]

/-- A request that waits for its owner is taken by it. -/
theorem State.serve_of_holds {s : State} {kind tag : Byte} {body : List Byte} (h : s.holds kind tag body)
    (own : State → State) : s.serve kind tag body own = s.taken own := by
  unfold State.serve
  rw [if_pos ((State.holdsNow_iff s kind tag body).mpr h)]

/-- An owner that only answers: a request that waits for it gets that answer, and nothing else changes. -/
theorem State.serve_answer {s : State} {kind tag : Byte} {body : List Byte} (h : s.holds kind tag body)
    {own : State → State} {st : Status} {data : List Byte} (e : own s = s.answer st data) :
    s.serve kind tag body own = s.repliedTo kind tag body st data := by
  rw [State.serve_of_holds h, State.taken, e, State.taken_answer h.1 h.2]
  simp

/-- An owner that acts and then answers, leaving the phase and the request in hand alone. -/
theorem State.serve_act {s u : State} {kind tag : Byte} {body : List Byte} (h : s.holds kind tag body)
    {own : State → State} {st : Status} {data : List Byte} (e : own s = u.answer st data)
    (hp : u.phase = s.phase) (hi : u.link.inHand = s.link.inHand) :
    s.serve kind tag body own = (oneChange s u).repliedTo kind tag body st data := by
  rw [State.serve_of_holds h, State.taken, e, State.taken_answer (hp.trans h.1) (hi.trans h.2)]

/-- A property that looks neither at the Link Port nor at the change generation. -/
def BlindToLink (P : State → Prop) : Prop :=
  ∀ (s : State) (l : Link) (g : Nat),
    P s → P { s with link := l, retained := { s.retained with generation := g } }

/-- What a blind property says of a state it says of any state that differs in the Link Port only. -/
theorem BlindToLink.link {P : State → Prop} (hb : BlindToLink P) {s : State} (h : P s) (l : Link) :
    P { s with link := l } := hb s l s.retained.generation h

theorem BlindToLink.pump {P : State → Prop} (hb : BlindToLink P) {s : State} (h : P s) : P s.pump := by
  rw [State.pump_eq]; exact hb.link h _

theorem BlindToLink.hear {P : State → Prop} (hb : BlindToLink P) {s : State} (h : P s) (bytes : List Byte) :
    P (s.hear bytes) := by
  rw [State.hear_eq]; exact hb.link h _

theorem BlindToLink.answer {P : State → Prop} (hb : BlindToLink P) {s : State} (h : P s) (st : Status)
    (data : List Byte) : P (s.answer st data) := by
  rw [State.answer_eq]; exact hb.link h _

theorem BlindToLink.raise {P : State → Prop} (hb : BlindToLink P) {s : State} (h : P s) (src : Source)
    (k : EventKind) : P (s.raise src k) := hb.link h _

theorem BlindToLink.oneChange {P : State → Prop} (hb : BlindToLink P) {s t : State} (h : P t) :
    P (oneChange s t) := by
  rw [oneChange_eq]; exact hb t t.link _ h

/-- A blind property that the owner keeps is kept by the request, however it comes. -/
theorem BlindToLink.serve {P : State → Prop} (hb : BlindToLink P) {own : State → State}
    (hown : ∀ s, s.phase = .running → P s → P (own s)) {s : State} (h : P s) (kind tag : Byte)
    (body : List Byte) : P (s.serve kind tag body own) := by
  unfold State.serve State.taken
  split
  · rename_i hh
    exact hb.pump (hb.oneChange (hown _ ((State.holdsNow_iff ..).mp hh).1 h))
  · split
    · have ht := hb.hear h (frameBytes kind tag body)
      dsimp only
      split
      · rename_i hh
        exact hb.pump (hb.oneChange (hown _ ((State.holdsNow_iff ..).mp hh).1 ht))
      · exact hb.pump ht
    · exact h

/-- A blind property that the act keeps is kept by the event. -/
theorem BlindToLink.plantEvent {P : State → Prop} (hb : BlindToLink P) {act : State → State}
    (hact : ∀ s, s.phase = .running → P s → P (act s)) {s : State} (h : P s) : P (plantEvent s act) := by
  unfold Machine.plantEvent
  split
  · rename_i hr
    exact hb.pump (hb.oneChange (hact s hr h))
  · exact h

/-- A blind property is kept by whatever the line brings. -/
theorem BlindToLink.lineEvent {P : State → Prop} (hb : BlindToLink P) {act : State → State}
    (hact : ∀ s, P s → P (act s)) {s : State} (h : P s) : P (lineEvent s act) := by
  unfold Machine.lineEvent
  split
  · exact hb.pump (hact s h)
  · exact h

/-! ## Hearing a frame (R189, R190) -/

theorem judge_short {got : List Byte} {n : Nat} (hn : n ≤ 240)
    (hl : ∀ len kind tag rest, got = len :: kind :: tag :: rest → len.toNat = n ∧ rest.length < n + 2) :
    judge got = (.assembling got, none) := by
  unfold judge
  split
  · rename_i len kind tag rest
    obtain ⟨h1, h2⟩ := hl len kind tag rest rfl
    rw [if_neg (by omega), if_pos (by omega)]
  · rfl

/-- The bytes of a frame after its start byte. -/
def frameTail (kind tag : Byte) (body : List Byte) (crc : Half) : List Byte :=
  crcSpan kind tag body ++ halfBytes crc

theorem frameTail_length (kind tag : Byte) (body : List Byte) (crc : Half) :
    (frameTail kind tag body crc).length = body.length + 5 := by
  simp [frameTail, crcSpan, halfBytes]

/-- A proper prefix of a frame's bytes is not yet judged. -/
theorem judge_prefix {kind tag : Byte} {body : List Byte} {crc : Half} (hb : body.length ≤ 240)
    {got rest : List Byte} (e : got ++ rest = frameTail kind tag body crc) (hr : rest ≠ []) :
    judge got = (.assembling got, none) := by
  apply judge_short hb
  intro len k t r hg
  subst hg
  have h1 : len = BitVec.ofNat 8 body.length := by
    simp only [frameTail, crcSpan, List.cons_append, List.cons.injEq] at e
    exact e.1
  have h2 := congrArg List.length e
  rw [frameTail_length] at h2
  have h3 : 0 < rest.length := List.length_pos_iff.mpr hr
  simp only [List.length_append, List.length_cons] at h2
  constructor
  · rw [h1, BitVec.toNat_ofNat]; omega
  · omega

/-- A whole frame is judged good when its CRC matches, and discarded when not (R190). -/
theorem judge_frame {kind tag : Byte} {body : List Byte} {crc : Half} (hb : body.length ≤ 240) :
    judge (frameTail kind tag body crc) =
      if halfBytes (crc16 (crcSpan kind tag body)) = halfBytes crc then (.hunting, some (.good kind tag body))
      else (.hunting, some .badCrc) := by
  have hlen : (BitVec.ofNat 8 body.length).toNat = body.length := by rw [BitVec.toNat_ofNat]; omega
  unfold judge frameTail crcSpan
  simp only [List.cons_append]
  rw [if_neg (by omega), if_neg (by simp [hlen, halfBytes])]
  simp [hlen]

theorem State.modLink_receiver (s : State) (r : Receiver) (h : s.link.receiver = r) :
    (s.modLink fun l => { l with receiver := r }) = s := by
  cases s; subst h; rfl

theorem State.hear_assembling {kind tag : Byte} {body : List Byte} {crc : Half} (hb : body.length ≤ 240)
    (rest : List Byte) :
    ∀ (got : List Byte) (s : State), got ++ rest = frameTail kind tag body crc → rest ≠ [] →
      s.link.receiver = .assembling got →
      s.hear rest =
        (s.modLink fun l => { l with receiver := .hunting }).acceptHeard
          (judge (frameTail kind tag body crc)).2 := by
  induction rest with
  | nil => intro _ _ _ h; contradiction
  | cons b rest ih =>
    intro got s e _ hr
    have e' : (got ++ [b]) ++ rest = frameTail kind tag body crc := by rw [← e]; simp
    rw [State.hear, List.foldl_cons, ← State.hear]
    by_cases hrest : rest = []
    · subst hrest
      have eg : got ++ [b] = frameTail kind tag body crc := by simpa using e'
      unfold State.hearByte Receiver.take
      rw [hr]
      simp only [eg, State.hear, List.foldl_nil]
      have hj : (judge (frameTail kind tag body crc)).1 = .hunting := by
        rw [judge_frame hb]; split <;> rfl
      simp only [State.modLink, hr, eg, hj]
    · have hj := judge_prefix hb e' hrest
      have hs : s.hearByte b = s.modLink fun l => { l with receiver := .assembling (got ++ [b]) } := by
        unfold State.hearByte Receiver.take
        simp [State.modLink, hr, hj, State.acceptHeard]
      rw [ih (got ++ [b]) _ e' hrest (by rw [hs]; rfl), hs]
      rfl

/-- A frame heard from HUNTING is judged once, at its last byte, and the receiver is HUNTING again (R189). -/
theorem State.hear_frame {kind tag : Byte} {body : List Byte} {crc : Half} (hb : body.length ≤ 240)
    {s : State} (hr : s.link.receiver = .hunting) :
    s.hear (frameWithCrc kind tag body crc) = s.acceptHeard (judge (frameTail kind tag body crc)).2 := by
  have e : frameWithCrc kind tag body crc = startByte :: frameTail kind tag body crc := rfl
  rw [e, State.hear, List.foldl_cons, ← State.hear]
  have hs : s.hearByte startByte = s.modLink fun l => { l with receiver := .assembling [] } := by
    unfold State.hearByte Receiver.take
    simp [State.modLink, hr, State.acceptHeard]
  have hne : frameTail kind tag body crc ≠ [] := by
    rw [← List.length_pos_iff, frameTail_length]; omega
  rw [State.hear_assembling hb (frameTail kind tag body crc) [] _ rfl hne (by rw [hs]; rfl), hs]
  congr 1
  exact State.modLink_receiver s .hunting hr

/-- A frame with its own CRC, heard from HUNTING, is a good frame. -/
theorem State.hear_good {kind tag : Byte} {body : List Byte} (hb : body.length ≤ 240) {s : State}
    (hr : s.link.receiver = .hunting) :
    s.hear (frameBytes kind tag body) = s.goodFrame kind tag body := by
  rw [frameBytes, State.hear_frame hb hr, judge_frame hb, if_pos rfl]
  rfl

theorem halfBytes_inj {a b : Half} (h : halfBytes a = halfBytes b) : a = b := by
  simp only [halfBytes, List.cons.injEq, and_true] at h
  obtain ⟨h1, h2⟩ := h
  ext i hi
  have e1 := congrArg (fun v : BitVec 8 => v.getLsbD (i - 8)) h1
  have e2 := congrArg (fun v : BitVec 8 => v.getLsbD i) h2
  simp only [BitVec.getLsbD_extractLsb'] at e1 e2
  by_cases h8 : i < 8
  · simpa [h8, BitVec.getLsbD_eq_getElem hi] using e2
  · have : 8 + (i - 8) = i := by omega
    have h9 : i - 8 < 8 := by omega
    simpa [h9, this, BitVec.getLsbD_eq_getElem hi] using e1

/-- A frame with a CRC of its own that does not match, heard from HUNTING, is discarded (R190). -/
theorem State.hear_bad {kind tag : Byte} {body : List Byte} {crc : Half} (hb : body.length ≤ 240) {s : State}
    (hr : s.link.receiver = .hunting) (hc : crc ≠ crc16 (crcSpan kind tag body)) :
    s.hear (frameWithCrc kind tag body crc) = s.discardFrame := by
  rw [State.hear_frame hb hr, judge_frame hb, if_neg fun h => hc (halfBytes_inj h).symm]
  rfl

end Sys2Proof.Machine
end

