-- ==== Sys2Proof/Laws/PerInstr.lean ====
section
/-!
SUPPORT. The family `Wire`, one lemma for each command: the frame that a well-formed request makes has a body
length that the Link Port accepts for its kind (R193, R205), and no longer than a frame can hold (R189). An event
of the plant, of a timer or of the line makes no frame.
-/

namespace Sys2Proof

theorem length_halfBytes (h : Half) : (halfBytes h).length = 2 := rfl

theorem length_flatMap_const {α : Type} {f : α → List Byte} {k : Nat} (h : ∀ a, (f a).length = k) (l : List α) :
    (l.flatMap f).length = k * l.length := by
  induction l with
  | nil => rfl
  | cons a l ih => rw [List.flatMap_cons, List.length_append, h a, ih, List.length_cons, Nat.mul_succ, Nat.add_comm]

theorem RawRecipe.length_bytes (r : RawRecipe) : r.bytes.length = 141 := by
  have seg : ∀ l : List RawSegment, (l.flatMap RawSegment.bytes).length = 7 * l.length :=
    length_flatMap_const fun _ => rfl
  have band : ∀ l : List RawBand, (l.flatMap RawBand.bytes).length = 4 * l.length :=
    length_flatMap_const fun _ => rfl
  have half : ∀ l : List Half, (l.flatMap halfBytes).length = 2 * l.length := length_flatMap_const fun _ => rfl
  unfold RawRecipe.bytes
  simp only [List.length_append, length_halfBytes, seg, band, half, Tab.size, List.length_cons, List.length_nil]

end Sys2Proof

namespace Sys2Proof.Laws

/-- The frame of a well-formed request has a body length accepted for its kind. -/
def Wire.Statement (i : Instr) : Prop :=
  i.wellFormed = true → ∀ (kind tag : Byte) (body : List Byte), i.request? = some (kind, tag, body) →
    lengthAccepted kind body.length = true ∧ body.length ≤ 240

/-- A command that makes no frame. -/
theorem Wire.of_event {i : Instr} (h : i.request? = none) : Wire.Statement i := by
  intro _ kind tag body e
  rw [h] at e
  cases e

/-- A request whose body has a length fixed for its kind. -/
theorem Wire.of_request {i : Instr} {kind tag : Byte} {body : List Byte} (h : i.request? = some (kind, tag, body))
    (n : Nat) (hn : body.length = n) (ha : lengthAccepted kind n = true) (hm : n ≤ 240) : Wire.Statement i := by
  intro _ k t b e
  rw [h] at e
  cases e
  exact ⟨by rw [hn]; exact ha, by omega⟩

theorem Wire.identify (t : Byte) : Wire.Statement (.identify t) :=
  Wire.of_request rfl 0 rfl (by decide) (by decide)

theorem Wire.cellStatus (t : Byte) : Wire.Statement (.cellStatus t) :=
  Wire.of_request rfl 0 rfl (by decide) (by decide)

theorem Wire.restart (t : Byte) : Wire.Statement (.restart t) :=
  Wire.of_request rfl 0 rfl (by decide) (by decide)

theorem Wire.setClock (t : Byte) (seconds : Word) : Wire.Statement (.setClock t seconds) :=
  Wire.of_request rfl 4 rfl (by decide) (by decide)

theorem Wire.readClock (t : Byte) : Wire.Statement (.readClock t) :=
  Wire.of_request rfl 0 rfl (by decide) (by decide)

theorem Wire.readEvents (t : Byte) : Wire.Statement (.readEvents t) :=
  Wire.of_request rfl 0 rfl (by decide) (by decide)

theorem Wire.maskEvents (t mode : Byte) (kinds : List Byte) : Wire.Statement (.maskEvents t mode kinds) := by
  intro w kind tag body e
  simp only [Instr.wellFormed, decide_eq_true_eq] at w
  cases e
  simp only [List.length_cons]
  refine ⟨?_, by omega⟩
  change (decide (1 ≤ kinds.length + 1) && decide (kinds.length + 1 ≤ 21)) = true
  simp only [Bool.and_eq_true, decide_eq_true_eq]
  omega

theorem Wire.getSetting (t : Byte) (ident : Byte) : Wire.Statement (.getSetting t ident) :=
  Wire.of_request rfl 1 rfl (by decide) (by decide)

theorem Wire.setSetting (t : Byte) (ident : Byte) (value : Word) : Wire.Statement (.setSetting t ident value) :=
  Wire.of_request rfl 5 rfl (by decide) (by decide)

theorem Wire.setTuning (t : Byte) (zone : Byte) (kp : Byte) (ki : Byte) :
    Wire.Statement (.setTuning t zone kp ki) :=
  Wire.of_request rfl 3 rfl (by decide) (by decide)

theorem Wire.writeRecipe (t slot : Byte) (r : RawRecipe) : Wire.Statement (.writeRecipe t slot r) :=
  Wire.of_request rfl 142 (by simp [RawRecipe.length_bytes]) (by decide) (by decide)

theorem Wire.readRecipe (t : Byte) (slot : Byte) : Wire.Statement (.readRecipe t slot) :=
  Wire.of_request rfl 1 rfl (by decide) (by decide)

theorem Wire.assignRecipe (t : Byte) (press : Byte) (slot : Byte) :
    Wire.Statement (.assignRecipe t press slot) :=
  Wire.of_request rfl 2 rfl (by decide) (by decide)

theorem Wire.setHeatMode (t : Byte) (press : Byte) (mode : Byte) (standby : Half) (held : Byte) :
    Wire.Statement (.setHeatMode t press mode standby held) :=
  Wire.of_request rfl 5 rfl (by decide) (by decide)

theorem Wire.readZones (t : Byte) (press : Byte) : Wire.Statement (.readZones t press) :=
  Wire.of_request rfl 1 rfl (by decide) (by decide)

theorem Wire.clearZone (t : Byte) (zone : Byte) : Wire.Statement (.clearZone t zone) :=
  Wire.of_request rfl 1 rfl (by decide) (by decide)

theorem Wire.disableZone (t : Byte) (zone : Byte) : Wire.Statement (.disableZone t zone) :=
  Wire.of_request rfl 1 rfl (by decide) (by decide)

theorem Wire.enableZone (t : Byte) (zone : Byte) : Wire.Statement (.enableZone t zone) :=
  Wire.of_request rfl 1 rfl (by decide) (by decide)

theorem Wire.postOrder (t : Byte) (orderTag : Byte) (press : Byte) :
    Wire.Statement (.postOrder t orderTag press) :=
  Wire.of_request rfl 2 rfl (by decide) (by decide)

theorem Wire.cancelOrder (t : Byte) (orderTag : Byte) : Wire.Statement (.cancelOrder t orderTag) :=
  Wire.of_request rfl 1 rfl (by decide) (by decide)

theorem Wire.zeroScale (t : Byte) : Wire.Statement (.zeroScale t) :=
  Wire.of_request rfl 0 rfl (by decide) (by decide)

theorem Wire.readScale (t : Byte) : Wire.Statement (.readScale t) :=
  Wire.of_request rfl 0 rfl (by decide) (by decide)

theorem Wire.load (t : Byte) (press : Byte) (serial : Word) : Wire.Statement (.load t press serial) :=
  Wire.of_request rfl 5 rfl (by decide) (by decide)

theorem Wire.close (t : Byte) (press : Byte) : Wire.Statement (.close t press) :=
  Wire.of_request rfl 1 rfl (by decide) (by decide)

theorem Wire.openPress (t : Byte) (press : Byte) : Wire.Statement (.openPress t press) :=
  Wire.of_request rfl 1 rfl (by decide) (by decide)

theorem Wire.abort (t : Byte) (press : Byte) : Wire.Statement (.abort t press) :=
  Wire.of_request rfl 1 rfl (by decide) (by decide)

theorem Wire.release (t : Byte) (press : Byte) : Wire.Statement (.release t press) :=
  Wire.of_request rfl 1 rfl (by decide) (by decide)

theorem Wire.clearFault (t : Byte) (press : Byte) : Wire.Statement (.clearFault t press) :=
  Wire.of_request rfl 1 rfl (by decide) (by decide)

theorem Wire.readPress (t : Byte) (press : Byte) : Wire.Statement (.readPress t press) :=
  Wire.of_request rfl 1 rfl (by decide) (by decide)

theorem Wire.readHistory (t : Byte) (start : Half) (count : Byte) :
    Wire.Statement (.readHistory t start count) :=
  Wire.of_request rfl 3 rfl (by decide) (by decide)

theorem Wire.collect (t : Byte) (n : Half) : Wire.Statement (.collect t n) :=
  Wire.of_request rfl 2 rfl (by decide) (by decide)

theorem Wire.annotate (t : Byte) (serial : Word) (result : Byte) (inspector : Byte) :
    Wire.Statement (.annotate t serial result inspector) :=
  Wire.of_request rfl 6 rfl (by decide) (by decide)

theorem Wire.readOpen (t : Byte) (serial : Word) : Wire.Statement (.readOpen t serial) :=
  Wire.of_request rfl 4 rfl (by decide) (by decide)

theorem Wire.store (t : Byte) : Wire.Statement (.store t) :=
  Wire.of_request rfl 0 rfl (by decide) (by decide)

theorem Wire.snapshotCounters (t : Byte) (press : Byte) (clear : Byte) :
    Wire.Statement (.snapshotCounters t press clear) :=
  Wire.of_request rfl 2 rfl (by decide) (by decide)

theorem Wire.readCounters (t : Byte) (press : Byte) : Wire.Statement (.readCounters t press) :=
  Wire.of_request rfl 1 rfl (by decide) (by decide)

theorem Wire.goodFrame (kind tag : Byte) (body : List Byte) :
    Wire.Statement (.goodFrame kind tag body) := Wire.of_event rfl

theorem Wire.badCrcFrame (kind tag : Byte) (body : List Byte) (crc : Half) :
    Wire.Statement (.badCrcFrame kind tag body crc) := Wire.of_event rfl

theorem Wire.overLengthFrame (len kind tag : Byte) (rest : List Byte) :
    Wire.Statement (.overLengthFrame len kind tag rest) := Wire.of_event rfl

theorem Wire.interbyteGapTimeout (bytes : List Byte) :
    Wire.Statement (.interbyteGapTimeout bytes) := Wire.of_event rfl

theorem Wire.framingError (bytes : List Byte) : Wire.Statement (.framingError bytes) := Wire.of_event rfl

theorem Wire.transmitComplete : Wire.Statement (.transmitComplete) := Wire.of_event rfl

theorem Wire.thermocoupleReading (zone : Fin 24) (reading : Reading) :
    Wire.Statement (.thermocoupleReading zone reading) := Wire.of_event rfl

theorem Wire.heatFrameBoundary : Wire.Statement (.heatFrameBoundary) := Wire.of_event rfl

theorem Wire.heaterSlot : Wire.Statement (.heaterSlot) := Wire.of_event rfl

theorem Wire.goodSample (count : Count) : Wire.Statement (.goodSample count) := Wire.of_event rfl

theorem Wire.faultedSample : Wire.Statement (.faultedSample) := Wire.of_event rfl

theorem Wire.settleTimeout : Wire.Statement (.settleTimeout) := Wire.of_event rfl

theorem Wire.ticketPotLifeExpiry (press : Fin 4) (serial : Word) :
    Wire.Statement (.ticketPotLifeExpiry press serial) := Wire.of_event rfl

theorem Wire.boundPotLifeExpiry (press : Fin 4) :
    Wire.Statement (.boundPotLifeExpiry press) := Wire.of_event rfl

theorem Wire.curingConditionMet (press : Fin 4) (levels : PressInputs) (guardRise : Bool) :
    Wire.Statement (.curingConditionMet press levels guardRise) := Wire.of_event rfl

theorem Wire.pressureDip (press : Fin 4) (fallen : DipInput) (levels : PressInputs) (guardRise : Bool) :
    Wire.Statement (.pressureDip press fallen levels guardRise) := Wire.of_event rfl

theorem Wire.guardOkFall : Wire.Statement (.guardOkFall) := Wire.of_event rfl

theorem Wire.openLimitMet (press : Fin 4) (levels : PressInputs) (guardRise : Bool) :
    Wire.Statement (.openLimitMet press levels guardRise) := Wire.of_event rfl

theorem Wire.ejectOutMet (press : Fin 4) (levels : PressInputs) (guardRise : Bool) :
    Wire.Statement (.ejectOutMet press levels guardRise) := Wire.of_event rfl

theorem Wire.ejectHomeMet (press : Fin 4) (levels : PressInputs) (guardRise : Bool) :
    Wire.Statement (.ejectHomeMet press levels guardRise) := Wire.of_event rfl

theorem Wire.openLimitDrift (press : Fin 4) (levels : PressInputs) (guardRise : Bool) :
    Wire.Statement (.openLimitDrift press levels guardRise) := Wire.of_event rfl

theorem Wire.keyChange (level : Bool) : Wire.Statement (.keyChange level) := Wire.of_event rfl

theorem Wire.closeTimerExpiry (press : Fin 4) : Wire.Statement (.closeTimerExpiry press) := Wire.of_event rfl

theorem Wire.openTimerExpiry (press : Fin 4) : Wire.Statement (.openTimerExpiry press) := Wire.of_event rfl

theorem Wire.strokeTimerExpiry (press : Fin 4) : Wire.Statement (.strokeTimerExpiry press) := Wire.of_event rfl

theorem Wire.minimumOpenExpiry (press : Fin 4) : Wire.Statement (.minimumOpenExpiry press) := Wire.of_event rfl

theorem Wire.storeComplete : Wire.Statement (.storeComplete) := Wire.of_event rfl

theorem Wire.periodicStoreExpiry : Wire.Statement (.periodicStoreExpiry) := Wire.of_event rfl

theorem Wire.pfailRise : Wire.Statement (.pfailRise) := Wire.of_event rfl

theorem Wire.powerOnReset (pfail : Bool) : Wire.Statement (.powerOnReset pfail) := Wire.of_event rfl

theorem Wire.recallComplete : Wire.Statement (.recallComplete) := Wire.of_event rfl

theorem Wire.resetLineLow : Wire.Statement (.resetLineLow) := Wire.of_event rfl

theorem Wire.resetLineHigh : Wire.Statement (.resetLineHigh) := Wire.of_event rfl

theorem Wire.clockTick : Wire.Statement (.clockTick) := Wire.of_event rfl

theorem Wire.pressureDipEnd (press : Fin 4) (levels : PressInputs) (guardRise : Bool) :
    Wire.Statement (.pressureDipEnd press levels guardRise) := Wire.of_event rfl

theorem Wire.supplyLost : Wire.Statement (.supplyLost) := Wire.of_event rfl

end Sys2Proof.Laws
end

