-- ==== Sys2Proof/Laws/Records.lean ====
section
/-!
SUPPORT. What the operations on part records and the history ring can do, said once each, and the ring's canonical
form, which every one of them keeps.
-/

namespace Sys2Proof.Machine

/-! ## The ring's list of places -/

theorem readPlace_writePlace (k : Nat) (r : Record) (l : List (Nat × Record)) :
    readPlace k (writePlace k r l) = some r := by
  induction l with
  | nil => simp [writePlace, readPlace]
  | cons x rest ih =>
    obtain ⟨j, q⟩ := x
    unfold writePlace
    split
    · simp [readPlace]
    · split
      · simp [readPlace]
      · rename_i h; simp [readPlace, h, ih]

theorem readPlace_writePlace_other {j k : Nat} (h : j ≠ k) (r : Record) (l : List (Nat × Record)) :
    readPlace j (writePlace k r l) = readPlace j l := by
  induction l with
  | nil => simp [writePlace, readPlace, h]
  | cons x rest ih =>
    obtain ⟨i, q⟩ := x
    unfold writePlace
    split
    · simp [readPlace, h]
    · split
      · rename_i hk; subst hk; simp [readPlace, h]
      · simp only [readPlace, ih]

/-- Every place number of a canonical list is below 1024, and rises from the first. -/
theorem placesRise_cons {j : Nat} {q : Record} {l : List (Nat × Record)} :
    placesRise ((j, q) :: l) = true ↔ j < 1024 ∧ placesRise l = true ∧ ∀ x ∈ l, j < x.1 := by
  induction l generalizing j q with
  | nil => simp [placesRise]
  | cons x rest ih =>
    obtain ⟨k, r⟩ := x
    rw [placesRise, Bool.and_eq_true, decide_eq_true_eq, ih]
    constructor
    · rintro ⟨h1, h2, h3, h4⟩
      refine ⟨by omega, ⟨h2, h3, h4⟩, ?_⟩
      intro y hy
      rcases List.mem_cons.mp hy with rfl | hy
      · exact h1
      · exact Nat.lt_trans h1 (h4 y hy)
    · rintro ⟨_, h2, h3⟩
      exact ⟨h3 (k, r) (by simp), h2⟩

theorem mem_writePlace {k : Nat} {r : Record} {l : List (Nat × Record)} {x : Nat × Record}
    (h : x ∈ writePlace k r l) : x.1 = k ∨ x ∈ l := by
  induction l with
  | nil => simp [writePlace] at h; left; rw [h]
  | cons y rest ih =>
    obtain ⟨j, q⟩ := y
    unfold writePlace at h
    split at h
    · rcases List.mem_cons.mp h with rfl | h
      · left; rfl
      · right; exact h
    · split at h
      · rcases List.mem_cons.mp h with rfl | h
        · left; rfl
        · right; exact List.mem_cons_of_mem _ h
      · rcases List.mem_cons.mp h with rfl | h
        · right; simp
        · rcases ih h with h | h
          · left; exact h
          · right; exact List.mem_cons_of_mem _ h

/-- A write keeps the places canonical. -/
theorem placesRise_writePlace {k : Nat} (hk : k < 1024) (r : Record) (l : List (Nat × Record))
    (h : placesRise l = true) : placesRise (writePlace k r l) = true := by
  induction l with
  | nil => simpa [writePlace, placesRise] using hk
  | cons x rest ih =>
    obtain ⟨j, q⟩ := x
    obtain ⟨h1, h2, h3⟩ := placesRise_cons.mp h
    unfold writePlace
    split
    · rename_i hlt
      refine placesRise_cons.mpr ⟨hk, h, ?_⟩
      intro y hy
      rcases List.mem_cons.mp hy with rfl | hy
      · exact hlt
      · exact Nat.lt_trans hlt (h3 y hy)
    · split
      · rename_i e; subst e
        exact placesRise_cons.mpr ⟨hk, h2, h3⟩
      · refine placesRise_cons.mpr ⟨h1, ih h2, ?_⟩
        intro y hy
        rcases mem_writePlace hy with e | hy
        · omega
        · exact h3 y hy

/-! ## The ring's operations (R131, R135, R136) -/

theorem Ring.placeOf_lt (r : Ring) (k : Nat) : r.placeOf k < 1024 := by
  unfold Ring.placeOf; omega

theorem Ring.wf_append {r : Ring} (h : r.wf = true) (q : Record) : (r.append q).wf = true := by
  simp only [Ring.wf, Ring.append, Bool.and_eq_true] at h ⊢
  exact ⟨placesRise_writePlace (r.placeOf_lt _) q _ h.1, h.2⟩

theorem Ring.wf_collect {r : Ring} (h : r.wf = true) (n : Nat) : (r.collect n).wf = true := by
  simp only [Ring.wf, Ring.collect, Bool.and_eq_true, decide_eq_true_eq] at h ⊢
  refine ⟨h.1, ?_⟩
  have : (r.oldest + n) % 1024 < 1024 := by omega
  exact decide_eq_true this

theorem Ring.wf_modRecord {r : Ring} (h : r.wf = true) (k : Nat) (f : Record → Record) :
    (r.modRecord k f).wf = true := by
  unfold Ring.modRecord
  split
  · simp only [Ring.wf, Bool.and_eq_true] at h ⊢
    exact ⟨placesRise_writePlace (r.placeOf_lt _) _ _ h.1, h.2⟩
  · exact h

@[simp] theorem Ring.count_append (r : Ring) (q : Record) : (r.append q).count = r.count + 1 := rfl

@[simp] theorem Ring.count_collect (r : Ring) (n : Nat) : (r.collect n).count = r.count - n := rfl

@[simp] theorem Ring.count_modRecord (r : Ring) (k : Nat) (f : Record → Record) :
    (r.modRecord k f).count = r.count := by
  unfold Ring.modRecord; split <;> rfl

/-- With room, appending leaves every uncollected record where it was and adds the new one as the youngest. -/
theorem Ring.record_append {r : Ring} (hc : r.count < 1024) (q : Record) (k : Nat) :
    (r.append q).record k = if k < r.count then r.record k else if k = r.count then some q else none := by
  have e : (r.append q).record k =
      if k < r.count + 1 then readPlace (r.placeOf k) (writePlace (r.placeOf r.count) q r.places)
      else none := rfl
  rw [e]
  by_cases h1 : k < r.count
  · have hne : r.placeOf k ≠ r.placeOf r.count := by
      unfold Ring.placeOf; omega
    rw [if_pos (by omega), if_pos h1, readPlace_writePlace_other hne, Ring.record, if_pos h1]
  · by_cases h2 : k = r.count
    · rw [if_pos (by omega), if_neg h1, if_pos h2, h2, readPlace_writePlace]
    · rw [if_neg (by omega), if_neg h1, if_neg h2]

/-- Collecting `n` records moves every index down by `n`. -/
theorem Ring.record_collect (r : Ring) {n : Nat} (hn : n ≤ r.count) (k : Nat) :
    (r.collect n).record k = r.record (k + n) := by
  have e : (r.collect n).record k =
      if k < r.count - n then readPlace ((r.collect n).placeOf k) r.places else none := rfl
  have hp : (r.collect n).placeOf k = r.placeOf (k + n) := by
    simp only [Ring.placeOf, Ring.collect]; omega
  rw [e, hp, Ring.record]
  by_cases h : k < r.count - n
  · rw [if_pos h, if_pos (by omega)]
  · rw [if_neg h, if_neg (by omega)]

/-! ## The uncollected records as a list (R123, R131) -/

/-- With room, an appended record is the last of the uncollected ones. -/
theorem Ring.uncollected_append {r : Ring} (hc : r.count < 1024) (q : Record) :
    (r.append q).uncollected = r.uncollected ++ [q] := by
  have old : (List.range r.count).filterMap (r.append q).record = (List.range r.count).filterMap r.record :=
    List.filterMap_congr fun k hk => by rw [record_append hc, if_pos (List.mem_range.mp hk)]
  have new : (r.append q).record r.count = some q := by
    rw [record_append hc, if_neg (Nat.lt_irrefl _), if_pos rfl]
  rw [uncollected, count_append, List.range_succ, List.filterMap_append, old, List.filterMap_cons, new]
  rfl

/-- Collecting takes none but uncollected records away, and keeps the order of the rest. -/
theorem Ring.uncollected_collect (r : Ring) {n : Nat} (hn : n ≤ r.count) :
    (r.collect n).uncollected.Sublist r.uncollected := by
  have kept : (r.collect n).uncollected = ((List.range (r.count - n)).map (· + n)).filterMap r.record := by
    rw [uncollected, count_collect, List.filterMap_map]
    exact List.filterMap_congr fun k _ => record_collect r hn k
  have split : List.range r.count = List.range n ++ (List.range (r.count - n)).map (· + n) := by
    have h := List.range_add (n := n) (m := r.count - n)
    rw [Nat.add_sub_cancel' hn] at h
    rw [h]
    exact congrArg _ (List.map_congr_left fun k _ => Nat.add_comm n k)
  rw [kept, uncollected, split, List.filterMap_append]
  exact List.sublist_append_right _ _

/-! ## What a write or a closing can do to the image -/

/-- The image `n` differs from `m` in records, ring and counters only, holds no more records, and keeps the ring's
canonical form. -/
structure RecordsKept (m n : Image) : Prop where
  settings : n.settings = m.settings
  tuning : n.tuning = m.tuning
  slots : n.slots = m.slots
  assigned : n.assigned = m.assigned
  nextSerial : n.nextSerial = m.nextSerial
  count : n.recordCount ≤ m.recordCount
  ring : m.ring.wf = true → n.ring.wf = true

theorem RecordsKept.refl (m : Image) : RecordsKept m m := ⟨rfl, rfl, rfl, rfl, rfl, Nat.le_refl _, id⟩

theorem RecordsKept.trans {m n o : Image} (h : RecordsKept m n) (k : RecordsKept n o) : RecordsKept m o :=
  ⟨k.settings.trans h.settings, k.tuning.trans h.tuning, k.slots.trans h.slots, k.assigned.trans h.assigned,
    k.nextSerial.trans h.nextSerial, Nat.le_trans k.count h.count, fun w => k.ring (h.ring w)⟩

/-- What a record operation leaves keeps to the room. -/
theorem RecordsKept.roomSound {m n : Image} (h : RecordsKept m n) (hm : m.roomSound) : n.roomSound :=
  ⟨h.ring hm.1, Nat.le_trans h.count hm.2.1, by rw [h.nextSerial]; exact hm.2.2⟩

/-- The state `t` differs from `s` in the records of the image and in the change generation only. -/
structure RecordOnly (s t : State) : Prop where
  eq : t = { s with image := t.image,
                    retained := { s.retained with generation := t.retained.generation } }
  image : RecordsKept s.image t.image

theorem RecordOnly.refl (s : State) : RecordOnly s s := ⟨rfl, RecordsKept.refl _⟩

theorem RecordOnly.trans {s t u : State} (h : RecordOnly s t) (k : RecordOnly t u) : RecordOnly s u :=
  ⟨by rw [k.eq, h.eq], h.image.trans k.image⟩

theorem RecordOnly.writeOpen (s : State) (serial : Nat) (f : OpenRecord → OpenRecord) :
    RecordOnly s (s.writeOpen serial f) :=
  ⟨rfl, rfl, rfl, rfl, rfl, rfl, by simp [State.writeOpen, Image.recordCount], id⟩

theorem RecordOnly.writeBound (s : State) (p : Fin 4) (f : OpenRecord → OpenRecord) :
    RecordOnly s (s.writeBound p f) := by
  unfold State.writeBound
  split
  · exact RecordOnly.writeOpen ..
  · exact RecordOnly.refl s

theorem filter_length_lt {α : Type} {p : α → Bool} {l : List α} {a : α} (ha : a ∈ l) (hp : p a = false) :
    (l.filter p).length + 1 ≤ l.length := by
  have h1 := List.length_filter_le p l
  have h2 : (l.filter p).length ≠ l.length := fun e => by
    have := List.filter_eq_self.mp (List.filter_sublist.eq_of_length e) a ha
    simp [hp] at this
  omega

theorem RecordOnly.closeRecord (s : State) (serial : Nat) (d : Disposition) (cause : Option PressFault) :
    RecordOnly s (s.closeRecord serial d cause) := by
  unfold State.closeRecord
  split
  · exact RecordOnly.refl s
  · rename_i o ho
    refine ⟨rfl, rfl, rfl, rfl, rfl, rfl, ?_, fun h => Ring.wf_append h _⟩
    have hm : o ∈ s.image.openTable := List.mem_of_find?_eq_some ho
    have hs : o.record.serial = serial := by simpa using List.find?_some ho
    have := filter_length_lt (p := fun q : OpenRecord => !decide (q.record.serial = serial)) hm (by simp [hs])
    simp only [State.writeImage_image, Image.recordCount, Image.takeClosed, Ring.count_append]
    omega

theorem RecordOnly.closeAll (s : State) (d : Disposition) : RecordOnly s (s.closeAll d) := by
  unfold State.closeAll
  generalize s.image.openSerials = l
  induction l generalizing s with
  | nil => exact RecordOnly.refl s
  | cons x rest ih => exact (RecordOnly.closeRecord s x d none).trans (ih _)

theorem RecordOnly.bumpStuck (s : State) (p : Fin 4) : RecordOnly s (s.bumpStuck p) :=
  ⟨rfl, rfl, rfl, rfl, rfl, rfl, Nat.le_refl _, id⟩

theorem RecordOnly.bumpCycles (s : State) (p : Fin 4) : RecordOnly s (s.bumpCycles p) := by
  unfold State.bumpCycles
  split
  · exact RecordOnly.refl s
  · exact ⟨rfl, rfl, rfl, rfl, rfl, rfl, Nat.le_refl _, id⟩

theorem RecordOnly.writeLoadTime (s : State) (serial : Nat) : RecordOnly s (s.writeLoadTime serial) := by
  unfold State.writeLoadTime
  split
  · exact RecordOnly.writeOpen ..
  · exact RecordOnly.refl s

theorem RecordOnly.writeDemould (s : State) (p : Fin 4) (n : Nat) (free : Bool) :
    RecordOnly s (s.writeDemould p n free) := RecordOnly.writeBound ..

end Sys2Proof.Machine
end

