-- ==== Sys2Proof/Laws/PressCycle.lean ====
section
/-!
SUPPORT. What an operation of one Press Sequencer can reach, said once each: its own press, its profile's marks, the
records, the pending sets and the notice, and nothing else.
-/

namespace Sys2Proof.Machine

/-- The state `t` differs from `s` in press `p`, the gate marks of its profile, the records of the image with the
change generation, and the events of the Link Port only. -/
structure PressOnly (p : Fin 4) (s t : State) : Prop where
  eq : t = { s with heat := t.heat, presses := t.presses, image := t.image,
                    retained := { s.retained with generation := t.retained.generation }, link := t.link }
  others : ∀ q, q ≠ p → t.press q = s.press q
  otherHeat : ∀ q, q ≠ p → t.pressHeat q = s.pressHeat q
  heat : ∀ q, (t.pressHeat q).mode = (s.pressHeat q).mode ∧ (t.pressHeat q).standby = (s.pressHeat q).standby ∧
    (t.pressHeat q).heldSet = (s.pressHeat q).heldSet ∧ (t.pressHeat q).ready = (s.pressHeat q).ready
  records : RecordsKept s.image t.image
  line : t.link.rate = s.link.rate ∧ t.link.receiver = s.link.receiver ∧ t.link.inHand = s.link.inHand ∧
    t.link.transmission = s.link.transmission ∧ t.link.reply = s.link.reply ∧
    t.link.discarded = s.link.discarded ∧ t.link.mask = s.link.mask

namespace PressOnly

variable {p : Fin 4} {s t u : State}

theorem refl (s : State) : PressOnly p s s :=
  { eq := rfl, others := fun _ _ => rfl, otherHeat := fun _ _ => rfl, heat := fun _ => by and_intros <;> rfl,
    records := RecordsKept.refl _, line := by and_intros <;> rfl }

theorem trans (h : PressOnly p s t) (k : PressOnly p t u) : PressOnly p s u := by
  obtain ⟨l1, l2, l3, l4, l5, l6, l7⟩ := h.line
  obtain ⟨k1, k2, k3, k4, k5, k6, k7⟩ := k.line
  refine ⟨by rw [k.eq, h.eq], fun q hq => (k.others q hq).trans (h.others q hq),
    fun q hq => (k.otherHeat q hq).trans (h.otherHeat q hq), fun q => ?_, h.records.trans k.records,
    ⟨k1.trans l1, k2.trans l2, k3.trans l3, k4.trans l4, k5.trans l5, k6.trans l6, k7.trans l7⟩⟩
  obtain ⟨a1, a2, a3, a4⟩ := h.heat q
  obtain ⟨b1, b2, b3, b4⟩ := k.heat q
  exact ⟨b1.trans a1, b2.trans a2, b3.trans a3, b4.trans a4⟩

theorem of_record (h : RecordOnly s t) : PressOnly p s t := by
  have hh : t.heat = s.heat := by rw [h.eq]
  have hp : t.presses = s.presses := by rw [h.eq]
  have hl : t.link = s.link := by rw [h.eq]
  refine ⟨by rw [h.eq], fun q _ => by rw [State.press, hp, ← State.press],
    fun q _ => by rw [State.pressHeat, hh, ← State.pressHeat], fun q => ?_, h.image, ?_⟩
  · rw [State.pressHeat, hh, ← State.pressHeat]; exact ⟨rfl, rfl, rfl, rfl⟩
  · rw [hl]; exact ⟨rfl, rfl, rfl, rfl, rfl, rfl, rfl⟩

theorem modPress (s : State) (f : Press → Press) : PressOnly p s (s.modPress p f) :=
  { PressOnly.refl s with
    eq := rfl, others := fun _ hq => State.press_modPress_other s hq f }

theorem raise (s : State) (src : Source) (k : EventKind) : PressOnly p s (s.raise src k) :=
  ⟨rfl, fun _ _ => rfl, fun _ _ => rfl, fun _ => ⟨rfl, rfl, rfl, rfl⟩, RecordsKept.refl _,
    State.raise_link_frame s src k⟩

theorem profile (s : State) (f : Profile → Profile) :
    PressOnly p s (s.modHeat p fun h => { h with profile := f h.profile }) := by
  refine ⟨rfl, fun _ _ => rfl, fun _ hq => State.pressHeat_modHeat_other s hq _, fun q => ?_,
    RecordsKept.refl _, ⟨rfl, rfl, rfl, rfl, rfl, rfl, rfl⟩⟩
  by_cases hq : q = p
  · subst hq; simp
  · rw [State.pressHeat_modHeat_other s hq]; exact ⟨rfl, rfl, rfl, rfl⟩

theorem setCloseMark (s : State) : PressOnly p s (s.setCloseMark p) :=
  profile s fun f => { f with closeMark := true }

theorem setOpenMark (s : State) : PressOnly p s (s.setOpenMark p) :=
  profile s fun f => { f with openMark := true }

theorem writeBound (s : State) (f : OpenRecord → OpenRecord) : PressOnly p s (s.writeBound p f) :=
  of_record (RecordOnly.writeBound ..)

theorem fixVerdict (s : State) : PressOnly p s (s.fixVerdict p) := by
  unfold State.fixVerdict
  exact (modPress s _).trans (writeBound _ _)

theorem leaveCuring (s : State) : PressOnly p s (s.leaveCuring p) := by
  unfold State.leaveCuring
  split
  · exact (setOpenMark s).trans (fixVerdict _)
  · exact refl s

theorem closeBound (s : State) (d : Disposition) (c : Option PressFault) : PressOnly p s (s.closeBound p d c) := by
  unfold State.closeBound
  split
  · exact (of_record (RecordOnly.closeRecord ..)).trans (modPress _ _)
  · exact refl s

theorem enterFault (s : State) (c : PressFault) : PressOnly p s (s.enterFault p c) := by
  unfold State.enterFault
  exact ((leaveCuring s).trans (modPress _ _)).trans ((closeBound _ _ _).trans (raise _ _ _))

theorem enterCuring (s : State) : PressOnly p s (s.enterCuring p) := by
  unfold State.enterCuring
  exact ((modPress s _).trans (setCloseMark _)).trans (writeBound _ _)

theorem beginDip (s : State) : PressOnly p s (s.beginDip p) := by
  unfold State.beginDip
  exact ((modPress s _).trans (writeBound _ _)).trans (raise _ _ _)

theorem startToOpen (s : State) : PressOnly p s (s.startToOpen p) := by
  unfold State.startToOpen
  exact (leaveCuring s).trans (modPress _ _)

theorem beginStroke (s : State) (k : Nat) : PressOnly p s (s.beginStroke p k) := modPress s _

theorem strokeBack (s : State) (k : Nat) : PressOnly p s (s.strokeBack p k) := modPress s _

theorem enterUnload (s : State) : PressOnly p s (s.enterUnload p) := (modPress s _).trans (raise _ _ _)

theorem openLimitReached (s : State) : PressOnly p s (s.openLimitReached p) := by
  unfold State.openLimitReached
  dsimp only
  split
  · exact (modPress s _).trans (enterUnload _)
  · exact (modPress s _).trans (beginStroke _ _)

theorem writeDemould (s : State) (n : Nat) (free : Bool) : PressOnly p s (s.writeDemould p n free) :=
  of_record (RecordOnly.writeDemould ..)

theorem endStroke (s : State) (k : Nat) : PressOnly p s (s.endStroke p k) := by
  unfold State.endStroke
  dsimp only
  split
  · exact ((modPress s _).trans (writeDemould _ _ _)).trans (enterUnload _)
  · split
    · exact (modPress s _).trans (beginStroke _ _)
    · exact (((modPress s _).trans (writeDemould _ _ _)).trans
        (of_record (RecordOnly.bumpStuck ..))).trans (enterFault _ _)

theorem pressCondition (h : s.pressCondition p = some t) : PressOnly p s t := by
  unfold State.pressCondition at h
  dsimp only at h
  repeat' split at h
  all_goals first
    | (cases h; done)
    | (obtain rfl := Option.some.inj h
       first
       | exact enterCuring _
       | exact beginDip _
       | exact openLimitReached _
       | exact strokeBack _ _
       | exact endStroke _ _
       | exact enterFault _ _
       | exact modPress _ _)

theorem settlePress (n : Nat) (s : State) : PressOnly p s (State.settlePress n s p) := by
  induction n generalizing s with
  | zero => exact refl s
  | succ n ih =>
    unfold State.settlePress
    split
    · rename_i t h; exact (pressCondition h).trans (ih t)
    · exact refl s

/-- Meeting every condition that holds touches the one press only. -/
theorem settled (s : State) : PressOnly p s (s.settled p) := settlePress 8 s

theorem loadTicket (s : State) (t : Ticket) : PressOnly p s (s.loadTicket p t) := by
  unfold State.loadTicket
  exact (of_record (RecordOnly.writeLoadTime ..)).trans (modPress _ _)

theorem startClosing (s : State) : PressOnly p s (s.startClosing p) := by
  unfold State.startClosing
  exact (of_record (RecordOnly.bumpCycles ..)).trans (modPress _ _)

theorem markAborted (s : State) : PressOnly p s (s.markAborted p) := writeBound s _

theorem abortLoaded (s : State) : PressOnly p s (s.abortLoaded p) := (closeBound s _ _).trans (modPress _ _)

theorem releasePart (s : State) : PressOnly p s (s.releasePart p) := (closeBound s _ _).trans (modPress _ _)

theorem expireTicket (s : State) (serial : Nat) : PressOnly p s (s.expireTicket p serial) := by
  unfold State.expireTicket
  split
  · exact ((of_record (RecordOnly.closeRecord ..)).trans (modPress _ _)).trans (raise _ _ _)
  · exact refl s

theorem expireBound (s : State) : PressOnly p s (s.expireBound p) := by
  unfold State.expireBound
  split
  · exact ((writeBound s _).trans (modPress _ _)).trans (raise _ _ _)
  · exact refl s

theorem cutStroke (s : State) : PressOnly p s (s.cutStroke p) := by
  unfold State.cutStroke
  split
  · exact writeDemould _ _ _
  · exact refl s

theorem guardAt (s : State) : PressOnly p s (s.guardAt p) := by
  unfold State.guardAt
  split
  · exact (cutStroke s).trans (enterFault _ _)
  · exact refl s

theorem closeExpires (s : State) : PressOnly p s (s.closeExpires p) := by
  unfold State.closeExpires
  split
  · exact enterFault _ _
  · exact refl s

theorem openExpires (s : State) : PressOnly p s (s.openExpires p) := by
  unfold State.openExpires
  split
  · exact enterFault _ _
  · exact refl s

theorem strokeExpires (s : State) : PressOnly p s (s.strokeExpires p) := by
  unfold State.strokeExpires
  split
  · exact (cutStroke s).trans (enterFault _ _)
  · exact refl s

theorem minOpenElapses (s : State) : PressOnly p s (s.minOpenElapses p) := modPress s _

theorem cutShort (s : State) : PressOnly p s (s.cutShort p) := by
  unfold State.cutShort
  split
  · exact fixVerdict s
  · exact cutStroke s

theorem derivePress (s : State) : PressOnly p s (s.derivePress p) := by
  unfold State.derivePress
  split
  · exact modPress s _
  · exact (modPress s _).trans (raise _ _ _)

theorem countFrame (s : State) (r : Recipe) : PressOnly p s (s.countFrame p r) := by
  unfold State.countFrame
  dsimp only
  have h1 (u : State) (b : Bool) (k : EventKind) : PressOnly p u (if b then u.raise (.press p) k else u) := by
    split
    · exact raise _ _ _
    · exact refl u
  exact ((((h1 s _ _).trans (h1 _ _ _)).trans (h1 _ _ _)).trans (modPress _ _)).trans (writeBound _ _)

/-- A Cure Accountant's boundary touches its own press only (R105). -/
theorem cureBoundary (s : State) : PressOnly p s (s.cureBoundary p) := by
  unfold State.cureBoundary
  split
  · split
    · dsimp only
      split
      · exact ((countFrame s _).trans (startToOpen _)).trans (settled _)
      · exact countFrame s _
    · exact refl s
  · exact refl s

end PressOnly

end Sys2Proof.Machine
end

