-- ==== Sys2Proof/Tests/Slice0.lean ====
section
/-!
SUPPORT. Tests and witnesses. The smoke test of `Instr.wellFormed`; small states on which the hypotheses of the
statements are met, clause by clause and at the boundary values of the operands; and single steps whose expected
results are worked examples of spec/ or worked by hand from its rules.
-/

namespace Sys2Proof.Tests

open Sys2Proof.Machine

set_option Elab.async false

/-! ## Well-formedness: one ill-formed term for each check -/

/-- All six inputs of a press low. -/
def low : PressInputs := ⟨false, false, false, false, false, false⟩

/-- All six inputs of a press high. -/
def high : PressInputs := ⟨true, true, true, true, true, true⟩

theorem test_wf_mask_events_too_long : (Instr.maskEvents 1 1 (List.replicate 21 0)).wellFormed = false := by decide
theorem test_wf_mask_events_longest : (Instr.maskEvents 1 1 (List.replicate 20 0)).wellFormed = true := by decide
theorem test_wf_good_frame_too_long : (Instr.goodFrame 1 1 (List.replicate 241 0)).wellFormed = false := by decide +kernel
theorem test_wf_bad_crc_too_long : (Instr.badCrcFrame 1 1 (List.replicate 241 0) 0).wellFormed = false := by
  decide +kernel
theorem test_wf_bad_crc_that_matches : (Instr.badCrcFrame 1 1 [] (crc16 [0, 1, 1])).wellFormed = false := by
  decide +kernel
theorem test_wf_over_length_240 : (Instr.overLengthFrame 240 1 1 []).wellFormed = false := by decide
theorem test_wf_dip_closed_limit_high : (Instr.pressureDip 0 .closedLimit high false).wellFormed = false := by decide
theorem test_wf_dip_tonnage_high : (Instr.pressureDip 0 .tonnageOk high false).wellFormed = false := by decide
theorem test_wf_curing_without_tonnage :
    (Instr.curingConditionMet 0 { high with tonnageOk := false } false).wellFormed = false := by decide
theorem test_wf_dip_end_without_limit :
    (Instr.pressureDipEnd 0 { high with closedLimit := false } false).wellFormed = false := by decide
theorem test_wf_open_limit_low : (Instr.openLimitMet 0 low false).wellFormed = false := by decide
theorem test_wf_eject_out_low : (Instr.ejectOutMet 0 low false).wellFormed = false := by decide
theorem test_wf_eject_home_low : (Instr.ejectHomeMet 0 low false).wellFormed = false := by decide
theorem test_wf_drift_high : (Instr.openLimitDrift 0 high false).wellFormed = false := by decide

/-! ## Small states -/

/-- A state with this request in hand, handed to its owner, and the transmitter free. -/
def handIn (s : State) (kind tag : Byte) (body : List Byte) : State :=
  { s with link := { s.link with inHand := some ⟨kind, tag, body, .handed⟩, transmission := none } }

/-- The state after reset with a request in hand. -/
def handed (kind tag : Byte) (body : List Byte) : State := handIn State.reset kind tag body

theorem holds_handIn {s : State} (h : s.phase = .running) (kind tag : Byte) (body : List Byte) :
    (handIn s kind tag body).holds kind tag body := ⟨h, rfl⟩

/-- The state after reset in another phase. -/
def inPhase (p : Phase) : State := { State.reset with phase := p }

/-- The state after reset with its Link Port changed. -/
def withLink (f : Link → Link) : State := { State.reset with link := f State.reset.link }

/-- The recipe of chapter 8's example, PANEL-B7, at revision 1. -/
def panel : Recipe :=
  { name := [80, 65, 78, 69, 76, 45, 66, 55], revision := 1, nominal := 8400, tolerance := 15, potLife := 900,
    segmentCount := 3, restSegment := 1,
    segments :=
      ((((Tab.fill ⟨0, 0, 0, .time⟩ : Tab Segment 8).set 0 ⟨1500, 20, 60, .time⟩).set 1 ⟨1520, 0, 0, .atClose⟩).set 2
        ⟨1560, 10, 0, .atOpen⟩),
    offsets := Tab.fill 0, readyBand := 30, bandCount := 5,
    bands :=
      (((((Tab.fill ⟨0, 0⟩ : Tab Band 8).set 0 ⟨1400, 4⟩).set 1 ⟨1450, 8⟩).set 2 ⟨1500, 16⟩).set 3 ⟨1550, 22⟩).set 4
        ⟨1600, 32⟩,
    cureTarget := 180, minCure := 150, maxCure := 300, overcure := 24, autoOpen := true, closeTimeout := 20,
    openTimeout := 15, minOpen := 30, demouldTries := 2, strokeTimeout := 5 }

/-- An accepted charge for press 0 with serial 7, under `panel` in slot 0. -/
def charge : Record :=
  { serial := 7, press := 0, slot := 0, revision := 1, tag := 5, weight := 8526, deviation := 15, weighTime := none,
    loadTime := none, cure := none, demould := none, disposition := none, cause := none, closingTime := none,
    annotation := none }

/-- Press 0 in RUN under `panel`, at the AT_CLOSE hold, its six zones ACTIVE and in band. -/
def hot : State :=
  { State.reset with
    image :=
      { Image.default with
        slots := Image.default.slots.set 0 ⟨1, some panel⟩,
        assigned := Image.default.assigned.set 0 (some 0), nextSerial := some 8 },
    heat :=
      State.reset.heat.set 0
        { PressHeat.reset with mode := .run, profile := ⟨1, .hold, 0, 1520, false, false⟩, ready := true },
    zones :=
      Tab.build fun z =>
        if z.val < 6 then { Zone.reset with state := .active, pv := 1520, valid := true, sp := 1520 } else Zone.reset }

/-- `hot` with the charge open as serial 7, and press 0 as given. -/
def pressed (x : Press) : State :=
  { hot with
    image := { hot.image with openTable := [⟨charge, false, false⟩] }, presses := hot.presses.set 0 x }

/-- Press 0 with the part 7 bound, in a state of its cycle. -/
def holding (st : PressState) : Press :=
  { Press.reset with state := st, bound := some ⟨7, 5, none⟩, cure := { Cure.reset with target := 2923 } }

/-- The charge's open record once press 0 is curing. -/
def curingRecord : OpenRecord :=
  ⟨{ charge with cure := some ⟨none, 0, 0, 2923, none, none, 0, 0, 0, none⟩ }, false, false⟩

/-- Press 0 curing part 7. -/
def curing : State :=
  { pressed (holding .curing) with image := { hot.image with openTable := [curingRecord] } }

/-- What the next state of a command gives. -/
def after {α : Type} (i : Instr) (s : State) (f : State → α) : Option α :=
  match exec i s with
  | .next t => some (f t)
  | .fault _ => none
  | .refused _ => none

/-- The status and data of the reply that a request in hand gets. -/
def reply (i : Instr) (s : State) : Option (List Byte) :=
  match i.request? with
  | none => none
  | some (kind, tag, body) =>
    (after i (handIn s kind tag body) fun t => t.link.replyFrame.map Frame.body).getD none

/-- The status of that reply. -/
def status (i : Instr) (s : State) : Option Byte := (reply i s).bind List.head?

/-- A record in the ring, oldest and alone. -/
def collected : State :=
  { State.reset with
    image :=
      { Image.default with
        ring := ⟨[(0, { charge with disposition := some .good })], 0, 1⟩, nextSerial := some 8 } }
/-! ## Witnesses: states and operands that meet each statement's hypotheses -/

theorem witness_idle :
    State.reset.pending = [] ∧ State.reset.phase = .running ∧ State.reset.station.settle = none ∧
      State.reset.retained.periodic = some 300000 ∧ (inPhase .held).phase ≠ .running := by decide

theorem witness_damaged_frames :
    State.reset.phase.receives = true ∧ State.reset.link.receiver = .hunting ∧
      (List.replicate 240 (0 : Byte)).length ≤ 240 ∧
      (0 : Half) ≠ crc16 (BitVec.ofNat 8 0 :: 1 :: 1 :: []) := by decide +kernel

theorem witness_gap_in_a_frame : (State.reset.hear [0xA5, 2]).link.receiver = .assembling [2] := by decide +kernel
theorem witness_gap_while_skipping : (State.reset.hear [0xA5, 241, 1, 1]).link.receiver = .skipping := by
  decide +kernel

theorem witness_good_frame_while_recalling :
    (inPhase .recalling).phase.receives = true ∧ (inPhase .recalling).link.inHand = none ∧
      (inPhase .waiting).phase.receives = true ∧ (inPhase .waiting).link.inHand = none := by decide

/-- R203: a request is answered STARTING while a start-up waits for PFAIL to fall. -/
theorem test_starting_while_waiting :
    after (.readClock 1) { inPhase .waiting with link := Link.reset 9600 } (fun t =>
      t.link.transmission.map fun x => (x.frame.kind, x.frame.tag, x.frame.body, x.rate)) =
      some (some (0x85, 1, [0x01], 9600)) := by decide +kernel

theorem witness_frame_checks :
    bodyLengths 0x08 = none ∧ lengthAccepted 0x01 1 = false ∧ lengthAccepted 0x07 0 = false ∧
      lengthAccepted 0x07 1 = true ∧ lengthAccepted 0x07 21 = true ∧ lengthAccepted 0x07 22 = false := by decide

theorem witness_over_length : 240 < (241 : Byte).toNat ∧ (bodyLengths 0x01).isSome ∧
    State.reset.link.inHand = none := by decide

theorem witness_request_and_frame :
    (Instr.maskEvents 9 1 (List.replicate 20 3)).wellFormed = true ∧
      (Instr.maskEvents 9 1 (List.replicate 20 3)).request? = some (0x07, 9, 1 :: List.replicate 20 3) ∧
      lengthAccepted 0x07 (1 :: List.replicate 20 (3 : Byte)).length = true := by decide

theorem witness_request_arrives :
    (Instr.close 51 2).request? = some (0x29, 51, [2]) ∧ (inPhase .stopped).phase.receives = false ∧
      State.reset.phase = .running ∧ State.reset.link.receiver = .hunting ∧ State.reset.link.inHand = none ∧
      ¬ (handed 0x01 1 []).holdsNow 0x29 51 [2] ∧ (handed 0x01 1 []).link.inHand.isSome := by decide

theorem witness_transmitter :
    State.reset.link.transmission.isSome ∧
      (withLink fun l => { l with transmission := none, reply := some ⟨0x81, 1, [0]⟩ }).link.transmission = none ∧
      (∀ k ∈ (withLink fun l => { l with transmission := none, noticeWaiting := true }).link.pending.get 5,
        k ∈ State.reset.link.mask) := by decide

/-- A notice waits although every kind is masked. -/
def withdrawing : State :=
  withLink fun l => { l with mask := [], transmission := none, noticeWaiting := true }

theorem witness_notice_withdrawn :
    withdrawing.link.noticeWaiting = true ∧
      ∀ i : Fin 6, ∀ k ∈ withdrawing.link.pending.get i, k ∉ withdrawing.link.mask := by decide

/-- A STORE_DONE notice is about to be raised while RESET holds the part, and the transmitter is free. -/
def heldNotice : State :=
  { inPhase .held with
    link := { State.reset.link with transmission := none, notice := false, pending := Tab.fill [] },
    retained := { State.reset.retained with store := some ⟨Image.default, 1⟩ } }

theorem witness_held_transmitter :
    heldNotice.phase = .held ∧ heldNotice.link.transmission = none ∧ heldNotice.link.reply = none ∧
      (heldNotice.raise .cell .storeDone).link.noticeWaiting = true ∧
      (∀ k ∈ (heldNotice.raise .cell .storeDone).link.pending.get 5,
        k ∈ (heldNotice.raise .cell .storeDone).link.mask) ∧
      (inPhase .stopped).phase ∉ [Phase.running, .recalling, .waiting, .held] ∧
      (inPhase .waiting).phase = .waiting := by decide

theorem witness_sent_reply :
    (withLink fun l =>
      { l with
        inHand := some ⟨0x03, 1, [], .restarting⟩,
        transmission := some ⟨⟨0x83, 1, [0]⟩, .reply, 9600⟩ }).link.sendsRestartReply = true := by decide

theorem witness_restart : (handed 0x03 1 []).holds 0x03 1 [] := holds_handIn rfl _ _ _
theorem witness_read_events : (handed 0x06 1 []).holds 0x06 1 [] := holds_handIn rfl _ _ _

theorem witness_mask_events :
    (handed 0x07 1 [1, 19]).holds 0x07 1 [1, 19] ∧ (handed 0x07 1 [2]).holds 0x07 1 [2] ∧
      (handed 0x07 1 [3]).holds 0x07 1 [3] ∧ (∀ k : EventKind, k.code ≠ 0xFF) ∧
      ([EventKind.started].map EventKind.code).length = 1 :=
  ⟨holds_handIn rfl _ _ _, holds_handIn rfl _ _ _, holds_handIn rfl _ _ _, by intro k; cases k <;> decide, rfl⟩

theorem witness_identify : (handed 0x01 1 []).holds 0x01 1 [] := holds_handIn rfl _ _ _
theorem witness_cell_status : (handed 0x02 1 []).holds 0x02 1 [] := holds_handIn rfl _ _ _

theorem witness_clock :
    (handed 0x04 1 (wordBytes 0xFFFFFFFF)).holds 0x04 1 (wordBytes 0xFFFFFFFF) ∧ (handed 0x05 1 []).holds 0x05 1 [] ∧
      (inPhase .stopped).phase = .stopped ∧ State.reset.phase ≠ .stopped ∧ State.reset.phase ≠ .unpowered :=
  ⟨holds_handIn rfl _ _ _, holds_handIn rfl _ _ _, rfl, by decide⟩

theorem witness_snapshot : (handed 0x35 1 [4, 1]).holds 0x35 1 [4, 1] ∧ (handed 0x36 1 [3]).holds 0x36 1 [3] :=
  ⟨holds_handIn rfl _ _ _, holds_handIn rfl _ _ _⟩

/-- The recipe lock is on and the key is not turned. -/
def lockedState : State :=
  { State.reset with image := { Image.default with settings := { Settings.default with recipeLock := true } } }

theorem witness_set_setting :
    (handed 0x11 1 (14 :: wordBytes 5)).holds 0x11 1 (14 :: wordBytes 5) ∧
      (handIn lockedState 0x11 1 (4 :: wordBytes 0)).holds 0x11 1 (4 :: wordBytes 0) ∧
      lockedState.image.settings.recipeLock = true ∧ lockedState.inputs.key = false :=
  ⟨holds_handIn rfl _ _ _, holds_handIn rfl _ _ _, rfl, rfl⟩

theorem witness_get_setting_and_tuning :
    (handed 0x10 1 [55]).holds 0x10 1 [55] ∧ (handed 0x12 1 [23, 255, 0]).holds 0x12 1 [23, 255, 0] ∧
      State.reset.image.settings.value 17 = some 0 ∧ State.reset.image.settings.value 1 = some 12 :=
  ⟨holds_handIn rfl _ _ _, holds_handIn rfl _ _ _, rfl, rfl⟩

/-! ### Recipes, stores, supply -/

/-- The recipe record of PANEL-B7 as it travels (chapter 8). -/
def rawPanel : RawRecipe :=
  { name := (Tab.build fun i => [80, 65, 78, 69, 76, 45, 66, 55, 0, 0, 0, 0].getD i.val 0), nominal := 8400,
    tolerance := 15, potLife := 900, segmentCount := 3, restSegment := 1,
    segments :=
      Tab.build fun i =>
        [⟨1500, 20, 60, 0⟩, ⟨1520, 0, 0, 1⟩, ⟨1560, 10, 0, 2⟩].getD i.val (RawSegment.mk 0 0 0 0),
    offsets := Tab.fill 0, readyBand := 30, bandCount := 5,
    bands :=
      Tab.build fun i => [⟨1400, 4⟩, ⟨1450, 8⟩, ⟨1500, 16⟩, ⟨1550, 22⟩, ⟨1600, 32⟩].getD i.val (RawBand.mk 0 0),
    cureTarget := 180, minCure := 150, maxCure := 300, overcure := 24, autoOpen := 1, closeTimeout := 20,
    openTimeout := 15, minOpen := 30, demouldTries := 2, strokeTimeout := 5 }

theorem witness_write_recipe :
    (handed 0x13 1 (15 :: rawPanel.bytes)).holds 0x13 1 (15 :: rawPanel.bytes) ∧ rawPanel.badField = none ∧
      { rawPanel with bandCount := 0 }.badField = some 46 ∧ (State.reset.image.slots.get 15).recipe = none :=
  ⟨holds_handIn rfl _ _ _, by decide +kernel⟩

/-- Records that fail each check of R164, in the order of the checks and at the ends of their ranges. -/
def brokenRecipes : List (RawRecipe × Nat) :=
  [({ rawPanel with name := rawPanel.name.set 7 31 }, 1), ({ rawPanel with name := rawPanel.name.set 0 127 }, 1),
    ({ rawPanel with segmentCount := 0 }, 5), ({ rawPanel with segmentCount := 9 }, 5),
    ({ rawPanel with restSegment := 3 }, 6),
    ({ rawPanel with segments := rawPanel.segments.set 2 ⟨1560, 10, 0, 3⟩ }, 18),
    ({ rawPanel with segments := rawPanel.segments.set 1 ⟨1520, 0, 0, 2⟩ }, 18),
    ({ rawPanel with bandCount := 0 }, 46), ({ rawPanel with bandCount := 9 }, 46),
    ({ rawPanel with bands := rawPanel.bands.set 1 ⟨1400, 8⟩ }, 49), ({ rawPanel with autoOpen := 2 }, 67),
    ({ rawPanel with maxCure := 149 }, 65), ({ rawPanel with maxCure := 179 }, 65)]

theorem witness_recipe_checks :
    (brokenRecipes.map fun x => x.1.badField) = brokenRecipes.map (fun x => some x.2) ∧
      { rawPanel with maxCure := 180, restSegment := 2, autoOpen := 0 }.badField = none ∧
      { rawPanel with nominal := 99, strokeTimeout := 31 }.clampedNumbers = [2, 72] ∧
      { rawPanel with nominal := 100, strokeTimeout := 30 }.clampedNumbers = [] ∧
      { rawPanel with segmentCount := 2 }.segmentCount.toNat ≤ (2 : Fin 8).val := by decide +kernel

theorem witness_recipe_slot_in_use :
    (hot.image.slots.get 0).recipe ≠ none ∧ hot.image.assigned.get 0 = some 0 ∧ (hot.pressHeat 0).mode = .run := by
  decide

theorem witness_read_and_assign_recipe :
    (handIn hot 0x14 1 [0]).holds 0x14 1 [0] ∧ (handIn hot 0x15 1 [3, 0]).holds 0x15 1 [3, 0] ∧
      (hot.image.slots.get 0).recipe = some panel ∧ (hot.image.slots.get 15).recipe = none ∧
      (hot.pressHeat 3).mode ≠ .run ∧ (hot.press 3).tickets = [] ∧ (hot.press 3).bound = none ∧
      hot.station.current = none :=
  ⟨holds_handIn rfl _ _ _, holds_handIn rfl _ _ _, by decide⟩

/-- A store of the default image is in flight in this phase, with generation 1 noted. -/
def storing (p : Phase) (generation : Nat) : State :=
  { State.reset with
    phase := p, pfail := true,
    retained := { State.reset.retained with store := some ⟨Image.default, 1⟩, generation := generation } }

theorem witness_store :
    (handed 0x34 1 []).holds 0x34 1 [] ∧ State.reset.retained.store = none ∧
      (handIn (storing .running 1) 0x34 1 []).holds 0x34 1 [] ∧ (storing .running 1).retained.store ≠ none :=
  ⟨holds_handIn rfl _ _ _, rfl, holds_handIn rfl _ _ _, by decide⟩

theorem witness_store_complete_in_power_fall :
    (storing (.powerFall false true) 2).phase = .powerFall false true ∧
      (storing (.powerFall false true) 2).retained.generation ≠ 1 ∧
      (storing (.powerFall true false) 2).phase = .powerFall true false ∧
      (storing (.powerFall true true) 2).phase = .powerFall true true ∧ (storing .held 1).phase = .held := by decide

theorem witness_periodic : State.reset.phase = .running ∧ State.reset.retained.periodic ≠ none := by decide

theorem witness_pfail :
    curing.phase = .running ∧ (curing.press 0).state = .curing ∧ curing.retained.store = none ∧
      (inPhase .recalling).phase = .recalling ∧ (storing (.powerFall true true) 1).phase = .powerFall true true := by decide

theorem witness_power_on :
    (inPhase .unpowered).phase = .unpowered ∧ (inPhase .stopped).phase = .stopped ∧
      ({ inPhase .stopped with
        retained :=
          { State.reset.retained with copy := .good Image.default 4 } } : State).retained.copy =
        .good Image.default 4 ∧
      Image.default.settings.linkRate ∈ [9600, 19200, 57600, 115200] := by decide

theorem witness_recall :
    (inPhase .recalling).phase = .recalling ∧ (inPhase .recalling).retained.copy = .bad := by decide

/-- A power-on reset that finds a good copy with one open record. -/
def recallingGood : State :=
  { inPhase .recalling with
    retained :=
      { State.reset.retained with
        copy := .good { Image.default with openTable := [⟨charge, false, false⟩], nextSerial := some 8 } 4 } }

theorem witness_recall_of_a_good_copy : ∃ m, recallingGood.retained.copy = .good m 4 ∧ m.openTable ≠ [] :=
  ⟨_, rfl, by decide⟩

/-- Two open records, the later serial first, and room for both. -/
def twoOpen : State :=
  { State.reset with
    image :=
      { Image.default with
        openTable := [⟨{ charge with serial := 9 }, false, false⟩, ⟨charge, false, false⟩],
        ring := ⟨[], 1023, 1022⟩, nextSerial := some 10 } }

theorem witness_close_all :
    (twoOpen.image.openTable.map fun o => o.record.serial).Nodup ∧
      twoOpen.image.ring.count + twoOpen.image.openTable.length ≤ 1024 ∧
      ¬ (9 : Nat) < charge.serial := by decide

/-- R156: the recall's closings stand in ascending order of serial, and each is one change. -/
theorem test_close_all_ascends :
    (let t := twoOpen.closeAll .scrapPower
    ([1022, 1023].map fun k => (t.image.ring.record k).map fun q => (q.serial, q.disposition),
      t.retained.generation, (t.image.counters.get 0).scrap.n)) =
      ([some (7, some .scrapPower), some (9, some .scrapPower)], 3, 2) := by decide +kernel

theorem witness_power_on_in_every_phase :
    (inPhase .running).phase = .running ∧ (inPhase .recalling).phase = .recalling ∧ (inPhase .held).phase = .held ∧
      (inPhase .waiting).phase = .waiting ∧ (inPhase (.powerFall true false)).phase = .powerFall true false ∧
      (storing .running 1).retained.store ≠ none ∧ (inPhase .running).retained.store = none := by decide

/-- R153, R145: power applied after a store was cut short finds the copy bad. -/
theorem test_power_on_after_a_cut_store :
    after (.powerOnReset false) { storing .running 1 with
      retained := { (storing .running 1).retained with copy := .good Image.default 1 } }
      (fun t => (t.retained.copy, t.phase)) = some (.bad, .recalling) := by decide +kernel

theorem witness_fresh_part :
    (inPhase .unpowered).pending = [] ∧ (inPhase .unpowered).lines = Lines.standing ∧
      (inPhase .unpowered).retained.copy = .bad := by decide

theorem witness_reset_line :
    curing.phase = .running ∧ (inPhase .held).phase = .held ∧ (inPhase .recalling).phase ≠ .running := by decide

/-! ### Records -/

theorem witness_read_history :
    (handIn collected 0x30 1 (halfBytes 0 ++ [4])).holds 0x30 1 (halfBytes 0 ++ [4]) ∧
      ([{ charge with disposition := some .good }] : List Record).length =
        min (4 : Byte).toNat (collected.image.ring.count - (0 : Half).toNat) ∧
      readPlace ((collected.image.ring.oldest + 0) % 1024) collected.image.ring.places =
        some { charge with disposition := some .good } :=
  ⟨holds_handIn rfl _ _ _, by decide⟩

theorem witness_collect_and_annotate :
    (handIn collected 0x31 1 (halfBytes 1)).holds 0x31 1 (halfBytes 1) ∧ 1 ≤ collected.image.ring.count ∧
      (handIn collected 0x32 1 (wordBytes 7 ++ [1, 9])).holds 0x32 1 (wordBytes 7 ++ [1, 9]) ∧
      collected.image.ring.record 0 = some { charge with disposition := some .good } ∧
      collected.image.openTable = [] :=
  ⟨holds_handIn rfl _ _ _, by decide, holds_handIn rfl _ _ _, by decide⟩

theorem witness_read_open :
    (handIn curing 0x33 1 (wordBytes 7)).holds 0x33 1 (wordBytes 7) ∧
      curing.image.openTable.find? (fun q => decide (q.record.serial = (7 : Word).toNat)) = some curingRecord ∧
      ((curing.press 0).bound.map Bound.serial) = some 7 :=
  ⟨holds_handIn rfl _ _ _, by decide⟩

theorem witness_closing :
    curing.image.openTable.find? (fun q => decide (q.record.serial = curingRecord.record.serial)) =
        some curingRecord ∧ curing.image.ring.count < 1024 := by decide

/-! ### Weighing -/

/-- The station after reset, changed. -/
def weighing (w : Station) : State := { hot with station := w }

/-- Eight entries of this weight in the window, and 25 averages of it: a stable scale. -/
def steadyAt (w : Int) (st : StationState) : Station :=
  { Station.reset 0 with
    state := st, window := List.replicate 8 ⟨w, w, false⟩, averages := List.replicate 25 w, stable := true }

/-- An order for press 0. -/
def order : Order := ⟨5, 0⟩

theorem witness_orders :
    (handed 0x20 1 [5, 3]).holds 0x20 1 [5, 3] ∧ (handed 0x21 1 [5]).holds 0x21 1 [5] ∧
      State.reset.station.queue.length < 8 ∧ (List.replicate 8 order).length = 8 ∧
      { Station.reset 0 with queue := [⟨4, 1⟩, order] }.queue = [⟨4, 1⟩] ++ order :: [] ∧
      { Station.reset 0 with state := .settling, current := some order }.current = some order :=
  ⟨holds_handIn rfl _ _ _, holds_handIn rfl _ _ _, by decide, by decide, rfl, rfl⟩

theorem witness_zero_scale :
    (handIn (weighing (steadyAt 200 .empty)) 0x22 1 []).holds 0x22 1 [] ∧
      (steadyAt 200 .empty).averages.getLast? = some 200 ∧
      (∀ a ∈ (steadyAt 200 .empty).averages, ∀ b ∈ (steadyAt 200 .empty).averages, a - b ≤ (5 : Int)) ∧
      (200 : Int) ≤ hot.image.settings.zeroRange ∧ (hot.image.settings.zeroRange : Int) < 201 :=
  ⟨holds_handIn rfl _ _ _, by decide +kernel⟩

theorem witness_good_sample :
    (weighing (steadyAt 499 .waiting)).phase = .running ∧ (steadyAt 499 .waiting).window.length ≤ 8 ∧
      (steadyAt 499 .waiting).averages.length ≤ 25 ∧ (steadyAt 499 .settling).state = .settling ∧
      (steadyAt 0 .removal).state = .removal ∧ (steadyAt 0 .fault).state = .fault := by decide

/-- An empty, stable scale with one order queued behind one whose press is in no mode to take it. -/
def takingOrder : State := weighing { steadyAt 0 .empty with queue := [⟨4, 1⟩, order] }

theorem witness_take :
    takingOrder.phase = .running ∧ (takingOrder.windowed 0).station.queue = [⟨4, 1⟩] ++ order :: [] ∧
      ((takingOrder.pressHeat order.press).mode = .run ∧ (takingOrder.press order.press).tickets.length < 2) ∧
      (takingOrder.pressHeat 1).mode ≠ .run ∧ takingOrder.image.nextSerial ≠ none ∧
      (takingOrder.windowed 0).station.stableNow 5 = true := by decide +kernel

/-- A charge of 8526 g settling for press 0 (chapter 3). -/
def settling : State := weighing { steadyAt 8526 .settling with current := some order, settle := some 1 }

theorem witness_capture :
    settling.phase = .running ∧ settling.station.state = .settling ∧
      (settling.windowed 8526).station.stableNow settling.image.settings.stabilityBand = true ∧
      (settling.windowed 8526).station.averages.getLast? = some 8526 ∧
      (settling.image.settings.loadThreshold : Int) ≤ 8526 ∧ settling.station.current = some order ∧
      settling.image.assigned.get 0 = some 0 ∧ (settling.image.slots.get 0).recipe = some panel ∧
      settling.image.nextSerial = some 8 := by decide +kernel

/-- 9000 g settling: above tolerance; one capture short of the zero interval and of the history warning. -/
def rejecting : State :=
  { settling with
    station :=
      { steadyAt 9000 .settling with
        current := some order, chargesSinceZero := hot.image.settings.zeroInterval - 1 },
    image := { hot.image with ring := ⟨[], 0, hot.image.settings.historyWarning - 1⟩ } }

theorem witness_rejected_capture :
    rejecting.phase = .running ∧ rejecting.station.state = .settling ∧
      (rejecting.windowed 9000).station.stableNow rejecting.image.settings.stabilityBand = true ∧
      (rejecting.windowed 9000).station.averages.getLast? = some 9000 ∧
      panel.tolerance * panel.nominal < ((9000 : Int) - panel.nominal).natAbs * 1000 ∧
      rejecting.image.ring.count < 1024 ∧ rejecting.station.zeroDue = false ∧ rejecting.historyRaised = false ∧
      rejecting.image.settings.zeroInterval = rejecting.station.chargesSinceZero + 1 ∧
      rejecting.image.settings.historyWarning =
        rejecting.image.openTable.length + rejecting.image.ring.count + 1 := by decide +kernel

theorem test_rejected_capture :
    after (.goodSample 9000) rejecting (fun t =>
      ((t.image.counters.get 0).rejects.n, t.image.openTable.length, (t.image.ring.record (hot.image.settings.historyWarning - 1)).isSome,
        t.link.pending.get 4, t.historyRaised)) =
      some (1, 0, true, [.chargeRejected, .zeroDue], true) := by decide +kernel

theorem witness_faulted_sample :
    settling.phase = .running ∧ settling.station.settle ≠ none ∧ State.reset.station.settle = none := by decide

/-! ### Presses -/

/-- Press 0 idle with the charge's ticket at the head of its queue. -/
def ticketed : State := pressed { Press.reset with tickets := [⟨7, 5, 900000⟩] }

theorem witness_load :
    (handIn ticketed 0x28 1 (0 :: wordBytes 7)).holds 0x28 1 (0 :: wordBytes 7) ∧
      (ticketed.press 0).state = .idle ∧ (ticketed.pressHeat 0).mode = .run ∧
      (ticketed.press 0).tickets = [⟨7, 5, 900000⟩] ∧
      ticketed.image.openTable.find? (fun q => decide (q.record.serial = (7 : Word).toNat)) =
        some ⟨charge, false, false⟩ ∧
      ticketed.recipeOf 0 = some panel :=
  ⟨holds_handIn rfl _ _ _, by decide⟩

theorem witness_close :
    (handIn (pressed (holding .loaded)) 0x29 1 [0]).holds 0x29 1 [0] ∧
      ((pressed (holding .loaded)).press 0).state = .loaded ∧ (pressed (holding .loaded)).inputs.guardOk = true ∧
      (pressed (holding .loaded)).heatReady 0 = true ∧ ((pressed (holding .loaded)).press 0).minOpen = none ∧
      (pressed (holding .loaded)).recipeOf 0 = some panel :=
  ⟨holds_handIn rfl _ _ _, by decide +kernel⟩

theorem witness_open_and_abort :
    (handIn curing 0x2A 1 [0]).holds 0x2A 1 [0] ∧ (handIn curing 0x2B 1 [0]).holds 0x2B 1 [0] ∧
      curing.recipeOf 0 = some panel ∧ (curing.press 0).bound = some ⟨7, 5, none⟩ ∧
      (curing.press 0).state = .curing ∧ (curing.press 0).cure.wall < panel.minCure ∧
      ((pressed { holding .curing with cure := { Cure.reset with wall := 150 } }).press 0).cure.wall = panel.minCure ∧
      ((pressed (holding .closing)).press 0).state = .closing ∧
      ((pressed (holding .opening)).press 0).state = .opening :=
  ⟨holds_handIn rfl _ _ _, holds_handIn rfl _ _ _, by decide⟩

/-- R85, R88: OPEN and ABORT are refused in IDLE and FAULT, where no part is bound. -/
theorem witness_open_and_abort_refused :
    status (.openPress 1 0) State.reset = some 5 ∧ status (.abort 1 0) State.reset = some 5 ∧
      status (.openPress 1 0) (pressed { Press.reset with state := .fault }) = some 5 ∧
      status (.abort 1 0) (pressed { Press.reset with state := .fault }) = some 5 := by decide +kernel

theorem witness_release_and_clear_fault :
    (handIn (pressed (holding .unload)) 0x2C 1 [0]).holds 0x2C 1 [0] ∧
      ((pressed (holding .unload)).press 0).state = .unload ∧
      ((pressed (holding .unload)).press 0).bound = some ⟨7, 5, none⟩ ∧
      (handIn (pressed (holding .fault)) 0x2D 1 [0]).holds 0x2D 1 [0] ∧
      ((pressed (holding .fault)).press 0).state = .fault ∧
      ((pressed (holding .fault)).inputs.presses.get 0).openLimit = true ∧
      ((pressed (holding .fault)).inputs.presses.get 0).ejectHome = true ∧
      (handed 0x2C 1 [4]).holds 0x2C 1 [4] ∧ 3 < (4 : Byte).toNat :=
  ⟨holds_handIn rfl _ _ _, by decide, by decide, holds_handIn rfl _ _ _, by decide, by decide, by decide,
    holds_handIn rfl _ _ _, by decide⟩

theorem witness_pot_life :
    ticketed.phase = .running ∧ (∃ k ∈ (ticketed.press 0).tickets, k.serial = (7 : Word).toNat) ∧
      ((pressed { holding .loaded with bound := some ⟨7, 5, some 1⟩ }).press 0).bound = some ⟨7, 5, some 1⟩ := by
  decide

theorem witness_fault_with_a_part :
    (curing.press 0).bound = some ⟨7, 5, none⟩ ∧ curing.image.ring.count < 1024 ∧
      curing.image.openTable.find? (fun q => decide (q.record.serial = 7)) = some curingRecord ∧
      (curing.press 0).state = .curing ∧ curing.recipeOf 0 = some panel ∧
      ((pressed (holding .closing)).press 0).state ≠ .curing := by decide

/-- Press 0 in the out phase, or in the back phase, of stroke `k`. -/
def ejecting (k : Nat) (ph : StrokePhase) : Press :=
  { holding .ejecting with stroke := some ⟨k, ph⟩, strokeTimer := some 1 }

theorem witness_timers_guard_and_drift :
    (pressed { holding .closing with closeTimer := some 1 }).phase = .running ∧
      ((pressed (ejecting 2 .out)).press 0).stroke = some ⟨2, .out⟩ ∧
      ((pressed (ejecting 2 .out)).press 0).strokeTimer ≠ none ∧ (State.reset.press 0).state = .idle ∧
      State.reset.pressCondition 0 = none := ⟨rfl, rfl, by decide, rfl, rfl⟩

theorem witness_no_drift :
    ((pressed (holding .closing)).press 0).state = .closing ∧ (curing.press 0).state = .curing ∧
      ((pressed (ejecting 1 .back)).press 0).state = .ejecting ∧
      ((pressed (ejecting 1 .back)).press 0).stroke = some ⟨1, .back⟩ ∧
      ((pressed (ejecting 1 .back)).press 0).cause ≠ some .drift ∧
      { high with ejectHome := false }.ejectHome = false ∧ { high with partFree := false }.partFree = false := by
  decide

/-- R95: OPEN_LIMIT low is no drift in CLOSING, CURING and EJECTING; a part that comes free then leaves UNLOAD by it. -/
theorem test_drift_state_by_state :
    after (.openLimitDrift 0 low false) (pressed (holding .closing)) (fun t => (t.press 0).state) = some .closing ∧
      after (.openLimitDrift 0 low false) curing (fun t => (t.press 0).state) = some .curing ∧
      after (.openLimitDrift 0 { low with ejectHome := true } false) (pressed (ejecting 1 .back))
        (fun t => ((t.press 0).state, (t.press 0).cause)) = some (.ejecting, none) ∧
      after (.openLimitDrift 0 high false) (pressed (ejecting 1 .back)) (fun t => (t.press 0).cause) =
        some (some .drift) := by decide +kernel

/-- Press 0 curing part 7 and press 1 in the first stroke for part 8. -/
def cutting : State :=
  { curing with
    presses := curing.presses.set 1 { ejecting 1 .out with bound := some ⟨8, 6, none⟩ },
    image := { curing.image with openTable := [curingRecord, ⟨{ charge with serial := 8, press := 1 }, false, false⟩] } }

theorem witness_cut_short :
    (∀ p q b c, (cutting.press p).bound = some b → (cutting.press q).bound = some c → b.serial = c.serial → p = q) ∧
      (cutting.press 0).state = .curing ∧ cutting.recipeOf 0 = some panel ∧ (cutting.press 1).state = .ejecting ∧
      (cutting.press 1).stroke = some ⟨1, .out⟩ ∧ (cutting.press 2).bound = none := by
  refine ⟨fun p q b c hb hc h => ?_, by decide⟩
  have one : ∀ p q : Fin 4, (cutting.press p).bound.map Bound.serial = (cutting.press q).bound.map Bound.serial →
      (cutting.press p).bound.isSome → p = q := by decide
  exact one p q (by rw [hb, hc, Option.map_some, Option.map_some, h]) (by rw [hb, Option.isSome_some])

/-- R114, R116, R127: both cycles cut short, two changes. -/
theorem test_cut_short :
    (let t := cutting.cutAllShort
    (t.image.openTable.map fun o => (o.record.cure.bind CureSummary.verdict, o.record.demould),
      t.retained.generation)) = ([(some .under, none), (none, some ⟨1, false⟩)], 3) := by decide +kernel

theorem witness_guard_fall :
    cutting.phase = .running ∧ cutting.image.ring.count + 2 ≤ 1024 ∧
      cutting.image.openTable.find? (fun w => decide (w.record.serial = 7)) = some curingRecord ∧
      cutting.image.openTable.find? (fun w => decide (w.record.serial = 8)) =
        some ⟨{ charge with serial := 8, press := 1 }, false, false⟩ := by decide

/-- R72, R93, R114: the cure's verdict and the stroke's demould summary are in the records that the guard closes. -/
theorem test_guard_closes_two_records :
    after .guardOkFall cutting (fun t =>
      (t.image.ring.record 0).bind fun q => q.cure.bind CureSummary.verdict) = some (some .under) ∧
      after .guardOkFall cutting (fun t => (t.image.ring.record 1).bind Record.demould) = some (some ⟨1, false⟩) ∧
      after .guardOkFall cutting (fun t => t.image.openTable.length) = some 0 := by decide +kernel

theorem witness_tonnage_and_dip :
    ((pressed (holding .closing)).press 0).state = .closing ∧ ((pressed (holding .closing)).press 0).bound =
      some ⟨7, 5, none⟩ ∧ (curing.press 0).dip = false ∧
      ((pressed { holding .curing with dip := true }).press 0).dip = true := by decide

theorem witness_demould :
    ((pressed (holding .opening)).press 0).state = .opening ∧ (pressed (holding .opening)).recipeOf 0 = some panel ∧
      0 < panel.demouldTries ∧ { panel with demouldTries := 0 }.demouldTries = 0 ∧
      ((pressed (ejecting 1 .out)).press 0).stroke = some ⟨1, .out⟩ ∧
      ((pressed (ejecting 2 .back)).press 0).stroke = some ⟨2, .back⟩ ∧ panel.demouldTries ≤ 2 ∧
      1 < panel.demouldTries := by decide

theorem witness_cure_frame :
    (curing.press 0).bound = some ⟨7, 5, none⟩ ∧ (curing.press 0).dip = false ∧
      (∃ i : Fin 6, ((curing.zone (zoneAt 0 i)).state = .active ∧ (curing.zone (zoneAt 0 i)).valid = true) ∧
        (curing.zone (zoneAt 0 i)).pv = 1520) ∧
      (∀ i : Fin 6, 1520 ≤ (curing.zone (zoneAt 0 i)).pv) ∧ ((1500 : Int) ≤ 1520 ∧ (1520 : Int) < 1550) := by
  decide

/-- R112: a frame finds CURE_DONE once; with the flag yes it finds nothing, however long the cure goes on. -/
theorem test_cure_done_once :
    ([false, true].map fun done =>
      ((pressed { holding .curing with cure := { Cure.reset with credit := 9, wall := 150, done := done } }).countFrame 0
        panel).link.pending.get 0) = [[.cureDone], []] := by decide +kernel

/-! ### Heat -/

theorem witness_heat_mode :
    (handIn hot 0x18 1 (0 :: 0 :: (halfBytes 0 ++ [0]))).holds 0x18 1 (0 :: 0 :: (halfBytes 0 ++ [0])) ∧
      (hot.pressHeat 0).mode = .run ∧ (hot.press 0).state = .idle ∧ (hot.press 0).tickets = [] ∧
      hot.station.current = none ∧
      (handed 0x18 1 (0 :: 2 :: (halfBytes 4000 ++ [63]))).holds 0x18 1 (0 :: 2 :: (halfBytes 4000 ++ [63])) ∧
      (4000 : Half).toNat ≤ 4000 ∧ (63 : Byte).toNat ≤ 63 :=
  ⟨holds_handIn rfl _ _ _, by decide, by decide, by decide, by decide, holds_handIn rfl _ _ _, by decide⟩

theorem witness_run_mode :
    (handIn hot 0x18 1 (1 :: 1 :: (halfBytes 0 ++ [0]))).holds 0x18 1 (1 :: 1 :: (halfBytes 0 ++ [0])) ∧
      (hot.pressHeat 1).mode ≠ .run ∧ hot.image.assigned.get 1 = none := ⟨holds_handIn rfl _ _ _, by decide⟩

theorem witness_zone_requests :
    (handed 0x1A 1 [23]).holds 0x1A 1 [23] ∧ (handed 0x1B 1 [0]).holds 0x1B 1 [0] ∧
      (handed 0x1C 1 [24]).holds 0x1C 1 [24] ∧ (State.reset.zone 23).state ≠ .fault ∧
      ((State.reset.modZone 23 fun z => { z with state := .disabled }).zone 23).state = .disabled ∧
      ((State.reset.modZone 23 fun z => z.enterFault .break_).zone 23).state = .fault :=
  ⟨holds_handIn rfl _ _ _, holds_handIn rfl _ _ _, holds_handIn rfl _ _ _, by decide⟩

theorem witness_reading_and_slot : hot.phase = .running ∧ (hot.zone 5).state = .active ∧
    (hot.zone 6).state = .off := by decide

/-- R22: 30 tenths off is within the ready band, 31 is not; and a platen with no counted zone is not ready. -/
theorem test_ready_bounds :
    ([1550, 1551].map fun t => (hot.modZone 0 fun z => { z with pv := t }).heatReady 0) = [true, false] ∧
      ({ hot with
        zones := Tab.build fun z => if z.val < 3 then Zone.reset else hot.zone z }.heatReady 0) = false := by
  decide +kernel

theorem witness_profile : panel.segmentAt 1 = some ⟨1520, 0, 0, .atClose⟩ ∧ panel.segmentAt 0 =
    some ⟨1500, 20, 60, .time⟩ := by decide

theorem zone_reset_sound : Zone.reset.sound := by
  unfold Zone.sound
  and_intros <;> first | decide | (intro x h; cases h)

theorem witness_allocation : ∀ z : Fin 24, (State.reset.zone z).sound := by
  intro z
  have h : State.reset.zone z = Zone.reset := Tab.get_fill _ _
  rw [h]
  exact zone_reset_sound

theorem witness_boundary :
    hot.phase = .running ∧ (inPhase .held).phase ≠ .running ∧ (curing.press 0).state = .curing ∧
      curing.recipeOf 0 = some panel := by decide

theorem witness_dropped_slots :
    (((Zone.reset).enterHeated .active 0).carry + 20 - 0 - 8 : Int).toNat = 12 ∧ (curing.press 0).state = .curing := by
  decide

theorem witness_reports :
    (handed 0x23 1 []).holds 0x23 1 [] ∧ (handed 0x19 1 [3]).holds 0x19 1 [3] ∧ (handed 0x2E 1 [4]).holds 0x2E 1 [4] ∧
      State.reset.station.queue.length ≤ 8 ∧ panel.name.length ≤ 12 :=
  ⟨holds_handIn rfl _ _ _, holds_handIn rfl _ _ _, holds_handIn rfl _ _ _, by decide⟩

/-- R54: the reasons a station gives, in their order. -/
theorem witness_holding_reasons :
    ([weighing (steadyAt 0 .settling),
      weighing { steadyAt 0 .empty with zeroDue := true, postponements := 4 },
      { weighing (steadyAt 0 .empty) with image := { hot.image with ring := ⟨[], 0, 1024⟩ } },
      { weighing (steadyAt 0 .empty) with image := { hot.image with nextSerial := none } },
      weighing (steadyAt 0 .empty), weighing { steadyAt 0 .empty with queue := [⟨4, 1⟩] }, takingOrder].map
        fun s => s.scaleReport.getD 1 9) = [0, 3, 2, 5, 1, 4, 0] := by decide +kernel

/-! ### A state in which every invariant holds and a command waits -/

/-- The clock is about to tick. -/
def ticking : State := { State.reset with pending := [.clockTick] }

theorem ticking_zone (z : Fin 24) : ticking.zone z = Zone.reset := Tab.get_fill _ _
theorem ticking_heat (p : Fin 4) : ticking.pressHeat p = PressHeat.reset := Tab.get_fill _ _
theorem ticking_press (p : Fin 4) : ticking.press p = Press.reset := Tab.get_fill _ _
theorem ticking_steps : ∃ t, step ticking = .next t := ⟨_, rfl⟩

theorem witness_heat_sound : ticking.heatSound := by
  refine ⟨fun z => ?_, fun p => ?_⟩
  · rw [ticking_zone]
    exact zone_reset_sound
  · rw [ticking_heat]
    decide

theorem witness_supply_sound : ticking.supplySound :=
  ⟨fun h => absurd rfl h, fun z => by rw [ticking_zone]; decide⟩

theorem witness_presses_sound : ticking.pressesSound := by
  refine ⟨fun p => ?_, fun p h => ?_, fun p => ?_, fun o h => ?_⟩
  · rw [ticking_press]
    and_intros <;> decide
  · rw [ticking_press] at h
    cases h
  · rw [ticking_press]
    decide
  · cases h

theorem witness_station_sound : ticking.station.sound := by
  unfold Station.sound
  decide

theorem witness_room_sound : ticking.roomSound := by
  refine ⟨⟨by decide, by decide, fun n h => ?_⟩, fun m h => ?_, fun h => ?_⟩
  · cases h
    decide
  · cases h
  · cases h

theorem witness_store_sound : ticking.storeSound := by
  have settings : ticking.image.settings.sound := by
    unfold Settings.sound
    decide
  refine ⟨⟨settings, by decide, fun k => ⟨?_, fun r h => ?_⟩⟩, fun m h => ?_⟩
  · revert k
    decide
  · have e : (ticking.image.slots.get k).recipe = none := by
      clear h
      revert k
      decide
    rw [e] at h
    cases h
  · cases h

theorem witness_parts_sound : ticking.partsSound := by
  refine ⟨fun p => ?_, ⟨List.nodup_nil, fun o h => ?_⟩, fun m h => ?_, fun h => ?_, fun h => ?_⟩
  · rw [ticking_press]
    exact List.Perm.refl []
  · cases h
  · cases h
  · rcases h with h | h <;> cases h
  · cases h

theorem witness_link_sound : ticking.link.sound := by
  refine ⟨by decide, ?_, by unfold canonicalKinds; decide, by decide, by decide, fun x h k => ?_⟩
  · unfold canonicalKinds
    decide
  · cases h
    cases k

/-! ## Arithmetic: the worked tables of spec/ -/

/-- R190: the CRC of the nine bytes 0x31 to 0x39. -/
theorem test_crc : crc16 [0x31, 0x32, 0x33, 0x34, 0x35, 0x36, 0x37, 0x38, 0x39] = 0x29B1 := by decide +kernel

/-- Chapter 1, Worked demands, first case: SP 1500, PV 1480, Kp 40, Ki 4, I 4000. -/
theorem test_demand :
    (fun z : Zone => (z.integ, z.demand, z.requested))
        ({ Zone.reset with state := .active, valid := true, sp := 1500, pv := 1480, integ := 4000 }.compute ⟨40, 4⟩) =
      (4080, 335, 7) := by decide

/-- Chapter 3, Worked weights, at gain 32768, capacity 30000. -/
theorem test_weights :
    [17053, 17052, -3, -1, 64000].map (fun n => (entryOf n 32768 30000).weight) = [8527, 8526, -1, 0, 30000] ∧
      (entryOf 64000 32768 30000).isOver = true ∧ (entryOf 17053 32768 30000).isOver = false := by decide

theorem test_average :
    windowAverage ([8526, 8527, 8526, 8525, 8527, 8526, 8526, 8527].map fun w => ⟨w, w, false⟩) = 8526 := by decide

/-- Chapter 3: 8526 g is the heaviest charge that is accepted, at +15 per mille. -/
theorem test_tolerance :
    withinTolerance 8526 8400 15 = true ∧ withinTolerance 8527 8400 15 = false ∧ deviationOf 8526 8400 = 15 := by decide

/-- Chapter 5: the adjusted target, and the band table. -/
theorem test_adjusted_target : adjustedTarget 180 8526 8400 = 2923 := by decide

theorem test_bands :
    [1385, 1400, 1449, 1460, 1500, 1549, 1620].map panel.bandWeight = [0, 4, 4, 8, 16, 16, 32] := by decide

/-- Chapter 6, Dispositions, worked. -/
theorem test_disposition :
    (OpenRecord.mk { charge with cure := some ⟨none, 0, 0, 0, none, none, 3, 0, 1, some .normal⟩ } false
      false).releaseDisposition = .suspect ∧
    (OpenRecord.mk { charge with cure := some ⟨none, 0, 0, 0, none, none, 0, 0, 0, some .normal⟩ } false
      true).releaseDisposition = .scrapExpired ∧
    (OpenRecord.mk charge true false).releaseDisposition = .scrapAborted := by decide

/-- Chapter 2, Levelling banks heat ahead: limit 1, levelling on, pointer 0. -/
def levelling : State :=
  { State.reset with
    zones :=
      ((State.reset.zones.set 0 { Zone.reset with state := .active, requested := 4, carry := -5 }).set 1
        { Zone.reset with state := .active, requested := 6 }).set 2
        { Zone.reset with state := .active, requested := 2, carry := 3 },
    image := { Image.default with settings := { Settings.default with demandLimit := 1 } } }

theorem test_levelling :
    [0, 1, 2].map (fun z => ((levelling.allocate.zone z).granted, (levelling.allocate.zone z).carry,
      (levelling.allocate.zone z).start)) = [(7, -8, 0), (8, -2, 7), (5, 0, 15)] := by decide +kernel

/-! ## Single steps -/

/-- Chapter 11, A frame, worked: CLOSE for press 2 with tag 51 is 0xA5, 0x01, 0x29, 0x33, 0x02 and its CRC. -/
theorem test_close_frame : (frameBytes 0x29 51 [2]).take 5 = [0xA5, 0x01, 0x29, 0x33, 0x02] := by decide +kernel

theorem test_step_takes_the_front :
    step { State.reset with pending := [.clockTick, .clockTick] } =
      .next { State.reset with pending := [.clockTick], clock := ⟨1, false, 0⟩ } := rfl

/-- R193: an unknown kind, and a body of the wrong length. -/
theorem test_good_frame_answered :
    after (.goodFrame 0x08 1 []) (handed 0x01 1 []) (fun t => t.link.discarded) = some 1 ∧
      after (.goodFrame 0x08 9 []) (withLink fun l => { l with transmission := none })
        (fun t => t.link.replyFrame) = some (some ⟨0x88, 9, [0x02]⟩) := by decide +kernel

/-- R191, R192. -/
theorem test_over_length_answered :
    after (.overLengthFrame 241 0x01 9 [1, 2]) (withLink fun l => { l with transmission := none })
      (fun t => (t.link.replyFrame, t.link.receiver)) = some (some ⟨0x81, 9, [0x03]⟩, .skipping) := by decide +kernel

theorem test_bad_crc : after (.badCrcFrame 1 1 [] 0) State.reset (fun t => t.link.discarded) = some 1 := by
  decide +kernel
theorem test_gap : after (.interbyteGapTimeout [0xA5, 3]) State.reset
    (fun t => (t.link.discarded, t.link.receiver)) = some (1, .hunting) := by decide +kernel
theorem test_framing_error_between_frames :
    after (.framingError [0x11]) State.reset (fun t => t.link.discarded) = some 0 := by decide +kernel
theorem test_notice_sent :
    after .transmitComplete State.reset (fun t => (t.link.transmission, t.link.notice)) = some (none, true) := by
  decide +kernel

theorem test_identify : reply (.identify 1) State.reset = some [0, 0x0E, 0x71, 0x04, 0x80, 3, 0] := by decide +kernel
theorem test_cell_status :
    reply (.cellStatus 1) State.reset = some [0, 0, 1, 0, 1, 0, 0, 0, 0, 0, 0, 0, 0, 0, 0] := by decide +kernel
theorem test_restart : after (.restart 1) (handed 0x03 1 []) (fun t => t.link.inHand.map InHand.stage) =
    some (some .restarting) := by decide +kernel
theorem test_set_clock : after (.setClock 1 500000) (handed 0x04 1 (wordBytes 500000)) (fun t => t.clock) =
    some ⟨500000, true, 0⟩ := by decide +kernel
theorem test_read_clock : reply (.readClock 1) State.reset = some [0, 0, 0, 0, 0, 0] := by decide +kernel
theorem test_read_events :
    reply (.readEvents 1) State.reset = some [0, 0, 0, 0, 0, 0, 2, 0x23, 0x24] := by decide +kernel
theorem test_mask_events_bounds :
    [0, 1, 2, 3].map (fun m => status (.maskEvents 1 m [1]) State.reset) = [some 4, some 0, some 0, some 4] := by
  decide +kernel

/-- R173: zone 14's gains read as 10244; 0, 18, 31 and 56 are no setting. -/
theorem test_get_setting :
    reply (.getSetting 1 46) State.reset = some (0 :: be32 10244) ∧
      [0, 1, 17, 18, 31, 32, 55, 56].map (fun n => status (.getSetting 1 n) State.reset) =
        [some 4, some 0, some 0, some 4, some 4, some 0, some 0, some 4] := by decide +kernel

/-- Chapter 8, Settings, worked. -/
theorem test_settings :
    reply (.setSetting 1 1 30) State.reset = some (0 :: be32 24) ∧
      reply (.setSetting 1 2 (-1)) State.reset = some (0 :: be32 1) ∧
      reply (.setSetting 1 14 5) State.reset = some (0 :: be32 10) ∧
      reply (.setSetting 1 16 38400) State.reset = some (0 :: be32 19200) ∧
      status (.setSetting 1 4 0) lockedState = some 0x0C ∧ status (.setSetting 1 18 5) State.reset = some 4 := by
  decide +kernel

theorem test_store_interval_bounds :
    [0, 1, 9, 10, 3600, 3601].map (fun v => reply (.setSetting 1 14 v) State.reset) =
      [0, 10, 10, 10, 3600, 3600].map fun n => some (0 :: be32 n) := by decide +kernel

theorem test_set_tuning_bounds : status (.setTuning 1 23 255 0) State.reset = some 0 ∧
    status (.setTuning 1 24 0 0) State.reset = some 4 := by decide +kernel

/-- Chapter 8, Written, worked: revision and an empty clamped list; then three fields clamped. -/
theorem test_write_recipe :
    reply (.writeRecipe 1 15 rawPanel) State.reset = some [0, 0, 1, 0] ∧
      reply (.writeRecipe 1 5
        { rawPanel with
          offsets := rawPanel.offsets.set 3 (-250), bands := rawPanel.bands.set 4 ⟨1600, 70⟩,
          minOpen := 900 }) State.reset = some [0, 0, 1, 3, 42, 56, 70] := by decide +kernel

theorem test_write_recipe_refused :
    status (.writeRecipe 1 16 rawPanel) State.reset = some 4 ∧ status (.writeRecipe 1 0 rawPanel) hot = some 0x0D := by
  decide +kernel
theorem test_read_recipe : (reply (.readRecipe 1 0) hot).map (fun b => (b.take 3, b.length, b.getLast?)) =
    some ([0, 0, 1], 145, some 1) := by decide +kernel
theorem test_assign_recipe_bounds :
    [(3, 0), (4, 0), (3, 15), (3, 16), (0, 0)].map (fun x => status (.assignRecipe 1 x.1 x.2) hot) =
      [some 0, some 4, some 6, some 4, some 0x0D] := by decide +kernel

theorem test_heat_mode_bounds :
    [(4, 0, 0, 0), (3, 3, 0, 0), (3, 2, 4000, 63), (3, 2, 4001, 63), (3, 2, 4000, 64), (3, 1, 0, 0)].map
        (fun x => status (.setHeatMode 1 x.1 x.2.1 x.2.2.1 x.2.2.2) hot) =
      [some 4, some 4, some 0, some 4, some 4, some 5] := by decide +kernel
theorem test_standby_holds_the_set :
    after (.setHeatMode 1 3 2 900 1) (handed 0x18 1 (3 :: 2 :: (halfBytes 900 ++ [1])))
      (fun t => ((t.zone 18).state, (t.zone 18).sp, (t.zone 19).state)) = some (.held, 900, .off) := by decide +kernel

theorem test_read_zones : (reply (.readZones 1 0) hot).map List.length = some 110 := by decide +kernel
theorem test_zone_bounds :
    status (.disableZone 1 23) State.reset = some 0 ∧ status (.disableZone 1 24) State.reset = some 4 ∧
      status (.clearZone 1 23) State.reset = some 5 ∧ status (.enableZone 1 23) State.reset = some 5 := by decide +kernel

theorem test_post_order_bounds :
    status (.postOrder 1 5 3) State.reset = some 0 ∧ status (.postOrder 1 5 4) State.reset = some 4 ∧
      status (.postOrder 1 5 3) (weighing { Station.reset 0 with queue := List.replicate 8 order }) = some 0x0E := by
  decide +kernel
theorem test_cancel_order :
    status (.cancelOrder 1 5) State.reset = some 6 ∧
      status (.cancelOrder 1 5) (weighing { Station.reset 0 with captured := [5] }) = some 0x0F ∧
      after (.cancelOrder 1 5) (handIn settling 0x21 1 [5]) (fun t => (t.station.state, t.station.settle)) =
        some (.removal, none) := by decide +kernel
theorem test_zero_scale :
    status (.zeroScale 1) (weighing (steadyAt 200 .empty)) = some 0 ∧
      status (.zeroScale 1) (weighing (steadyAt 201 .empty)) = some 4 ∧
      status (.zeroScale 1) (weighing (steadyAt 0 .removal)) = some 5 ∧
      status (.zeroScale 1) State.reset = some 8 := by decide +kernel
theorem test_read_scale : (reply (.readScale 1) State.reset).map List.length = some 37 := by decide +kernel

theorem test_load :
    status (.load 1 0 7) ticketed = some 0 ∧ status (.load 1 0 8) ticketed = some 6 ∧
      status (.load 1 4 7) ticketed = some 4 := by decide +kernel
theorem test_load_target : after (.load 1 0 7) (handIn ticketed 0x28 1 (0 :: wordBytes 7))
    (fun t => (t.press 0).cure.target) = some 2923 := by decide +kernel
theorem test_close :
    status (.close 1 0) (pressed (holding .loaded)) = some 0 ∧
      status (.close 1 0) (pressed { holding .loaded with minOpen := some 1 }) = some 9 ∧
      status (.close 1 0) (pressed (holding .curing)) = some 5 := by decide +kernel
theorem test_open_at_minimum_cure :
    status (.openPress 1 0) (pressed { holding .curing with cure := { Cure.reset with wall := 149 } }) = some 9 ∧
      status (.openPress 1 0) (pressed { holding .curing with cure := { Cure.reset with wall := 150 } }) = some 0 := by
  decide +kernel
theorem test_abort :
    after (.abort 1 0) (handIn (pressed (holding .loaded)) 0x2B 1 [0]) (fun t =>
      ((t.press 0).state, t.image.openTable.length, (t.image.ring.record 0).bind Record.disposition)) =
      some (.idle, 0, some .scrapAborted) := by decide +kernel
theorem test_release :
    after (.release 1 0) (handIn (pressed (holding .unload)) 0x2C 1 [0]) (fun t =>
      ((t.press 0).state, (t.image.ring.record 0).bind Record.disposition, (t.image.counters.get 0).good.n)) =
      some (.idle, some .good, 1) := by decide +kernel
theorem test_clear_fault :
    status (.clearFault 1 0) (pressed { Press.reset with state := .fault }) = some 0 ∧
      status (.clearFault 1 0) State.reset = some 5 := by decide +kernel
theorem test_read_press : (reply (.readPress 1 3) State.reset).map List.length = some 51 := by decide +kernel

theorem test_read_history_bounds :
    [(0, 0), (0, 1), (0, 4), (0, 5), (1023, 1), (1024, 1)].map (fun x => status (.readHistory 1 x.1 x.2) collected) =
      [some 4, some 0, some 0, some 4, some 0, some 4] := by decide +kernel
theorem test_collect_bounds :
    [0, 1, 2].map (fun n => status (.collect 1 n) collected) = [some 4, some 0, some 4] := by decide +kernel
theorem test_annotate :
    status (.annotate 1 7 1 9) collected = some 0 ∧ status (.annotate 1 7 3 9) collected = some 4 ∧
      status (.annotate 1 8 1 9) collected = some 6 ∧ status (.annotate 1 7 2 9) curing = some 5 := by decide +kernel
theorem test_read_open : (reply (.readOpen 1 7) curing).map (fun b => (b.length, b.getLast?)) = some (61, some 3) := by
  decide +kernel
theorem test_store : after (.store 1) (handed 0x34 1 []) (fun t => t.retained.store.map InFlight.noted) =
    some (some 1) := by decide +kernel
theorem test_snapshot_bounds :
    [(3, 0), (4, 1), (5, 0), (0, 2)].map (fun x => status (.snapshotCounters 1 x.1 x.2) State.reset) =
      [some 0, some 0, some 4, some 4] := by decide +kernel
theorem test_read_counters_bounds : status (.readCounters 1 3) State.reset = some 0 ∧
    status (.readCounters 1 4) State.reset = some 4 := by decide +kernel

/-- R17: a reading at SP plus the margin is no fault, one tenth above it is. -/
theorem test_reading_bounds :
    after (.thermocoupleReading 0 (.valid 1770)) hot (fun t => (t.zone 0).state) = some .active ∧
      after (.thermocoupleReading 0 (.valid 1771)) hot (fun t => (t.zone 0).cause) = some (some .overtemp) ∧
      after (.thermocoupleReading 0 (.valid (-501))) hot (fun t => (t.zone 0).latest) =
        some (some (.valid (-500))) := by decide +kernel
theorem test_boundary_without_a_reading :
    after .heatFrameBoundary hot (fun t => ((t.zone 0).cause, t.alloc.pointer, t.alloc.limit)) =
      some (some .break_, 1, some 12) := by decide +kernel
theorem test_slot :
    after .heaterSlot { levelling.allocate with pending := [] } (fun t =>
      ((t.zone 0).out, (t.zone 1).out, t.alloc.slot)) = some (true, false, 1) := by decide +kernel

theorem test_capture :
    after (.goodSample 8526) settling (fun t =>
      (t.station.state, (t.press 0).tickets, t.image.openTable.map fun o => (o.record.weight, o.record.deviation))) =
      some (.removal, [⟨8, 5, 900000⟩], [(8526, 15)]) := by decide +kernel
theorem test_take : after (.goodSample 0) takingOrder (fun t => (t.station.current, t.station.queue)) =
    some (some order, [⟨4, 1⟩]) := by decide +kernel
theorem test_faulted_sample : after .faultedSample settling (fun t => (t.station.state, t.station.queue)) =
    some (.fault, [order]) := by decide +kernel
theorem test_settle_timeout : after .settleTimeout settling (fun t => (t.station.settle, t.link.pending.get 4)) =
    some (none, [.settleTimeout]) := by decide +kernel

theorem test_ticket_expires :
    after (.ticketPotLifeExpiry 0 7) ticketed (fun t =>
      ((t.press 0).tickets, (t.image.ring.record 0).bind Record.disposition)) =
      some ([], some .scrapExpired) := by decide +kernel
theorem test_bound_expires :
    after (.boundPotLifeExpiry 0) (pressed { holding .loaded with bound := some ⟨7, 5, some 1⟩ })
      (fun t => t.image.openTable.map OpenRecord.expired) = some [true] := by decide +kernel
theorem test_curing_met :
    after (.curingConditionMet 0 low false) (pressed (holding .closing)) (fun t =>
      ((t.press 0).state, (t.pressHeat 0).profile.closeMark)) = some (.curing, true) := by decide +kernel
theorem test_dip : after (.pressureDip 0 .tonnageOk high false) curing (fun t =>
    ((t.press 0).dip, t.image.openTable.map fun o => o.record.cure.map CureSummary.dips)) =
      some (true, [some 1]) := by decide +kernel
theorem test_dip_end : after (.pressureDipEnd 0 low false) (pressed { holding .curing with dip := true })
    (fun t => (t.press 0).dip) = some false := by decide +kernel
theorem test_guard : after .guardOkFall curing (fun t => ((t.press 0).state, (t.press 0).cause, (t.press 1).state)) =
    some (.fault, some .guard, .idle) := by decide +kernel
theorem test_open_limit :
    after (.openLimitMet 0 low false) (pressed (holding .opening)) (fun t =>
      ((t.press 0).stroke, (t.press 0).minOpen)) = some (some ⟨1, .out⟩, some 30000) := by decide +kernel
theorem test_eject_out : after (.ejectOutMet 0 low false) (pressed (ejecting 1 .out)) (fun t => (t.press 0).stroke) =
    some (some ⟨1, .back⟩) := by decide +kernel
theorem test_stuck_after_the_last_try :
    after (.ejectHomeMet 0 low false) (pressed (ejecting 2 .back)) (fun t => (t.press 0).cause) =
      some (some .stuckPart) ∧
      after (.ejectHomeMet 0 low false) (pressed (ejecting 1 .back)) (fun t => (t.press 0).stroke) =
        some (some ⟨2, .out⟩) := by decide +kernel
theorem test_drift : after (.openLimitDrift 0 high false) State.reset (fun t => (t.press 0).cause) =
    some (some .drift) := by decide +kernel
theorem test_key : after (.keyChange true) State.reset (fun t => t.inputs.key) = some true := by decide +kernel
theorem test_close_timer :
    after (.closeTimerExpiry 0) (pressed { holding .closing with closeTimer := some 1 })
      (fun t => (t.press 0).cause) = some (some .closeTimeout) := by decide +kernel
theorem test_open_timer :
    after (.openTimerExpiry 0) (pressed { holding .opening with openTimer := some 1 })
      (fun t => (t.press 0).cause) = some (some .openTimeout) := by decide +kernel
theorem test_stroke_timer :
    after (.strokeTimerExpiry 0) (pressed (ejecting 1 .out)) (fun t =>
      ((t.press 0).cause, (t.image.ring.record 0).bind Record.demould)) =
      some (some .ejectTimeout, some ⟨1, false⟩) := by decide +kernel
theorem test_minimum_open :
    after (.minimumOpenExpiry 0) (pressed { holding .loaded with minOpen := some 1 }) (fun t => (t.press 0).minOpen) =
      some none := by decide +kernel

theorem test_store_complete : after .storeComplete (storing .running 1) (fun t =>
    (t.retained.storedGeneration, t.retained.store, EventKind.storeDone ∈ t.link.pending.get 5)) =
      some (1, none, True) := by
  simp only [after, exec, execStoreComplete]
  exact congrArg some (Prod.ext rfl (Prod.ext rfl (eq_true (by decide +kernel))))
theorem test_periodic_store : after .periodicStoreExpiry State.reset (fun t => t.retained.store.isSome) = some true := by
  decide +kernel
theorem test_pfail : after .pfailRise curing (fun t => (t.phase, (t.press 0).cure.verdict)) =
    some (.powerFall true false, some .under) := by decide +kernel
/-- R152, R153: a PFAIL that has fallen and risen again in power-fall handling still brings the start-up, which waits. -/
theorem test_second_rise_keeps_the_start_up :
    after (.powerOnReset false) (storing (.powerFall true false) 1) (fun t =>
      after .pfailRise t fun u => after .storeComplete u fun v => v.phase) = some (some (some .waiting)) := by
  decide +kernel
theorem test_power_on_waits : after (.powerOnReset true) (inPhase .unpowered) (fun t => t.phase) = some .waiting := by
  decide +kernel
theorem test_recall_scraps_open_records :
    after .recallComplete recallingGood (fun t =>
      (t.image.openTable.length, (t.image.ring.record 0).bind Record.disposition)) =
      some (0, some .scrapPower) := by decide +kernel
theorem test_reset_low : after .resetLineLow curing (fun t =>
    (t.phase, (t.image.ring.record 0).bind Record.disposition)) = some (.held, some .scrapReset) := by decide +kernel
theorem test_reset_high : after .resetLineHigh (inPhase .held) (fun t => t.phase) = some .running := by decide +kernel
theorem test_clock_wraps : after .clockTick { State.reset with clock := ⟨4294967295, true, 7⟩ } (fun t => t.clock) =
    some ⟨0, true, 0⟩ := by decide +kernel
theorem test_supply_lost_in_a_store : after .supplyLost (storing .running 1) (fun t => t.retained.copy) = some .bad := by
  decide +kernel

end Sys2Proof.Tests
end

/-!
PROOF. What a pass of the allocation hands out (R31 to R34), and what every zone is after an allocation (R28 to R38).
-/

namespace Sys2Proof.Machine.HeaterPower

/-! ## Sums over the entries before one entry of a list -/

/-- The sum of `f` over the entries of `l` that stand before the first `z`. -/
def sumBefore {M : Type} [AddMonoid M] (l : List (Fin 24)) (z : Fin 24) (f : Fin 24 → M) : M :=
  ((l.takeWhile fun y => decide (y ≠ z)).map f).sum

@[simp] theorem sumBefore_cons_self {M : Type} [AddMonoid M] (z : Fin 24) (l : List (Fin 24)) (f : Fin 24 → M) :
    sumBefore (z :: l) z f = 0 := by simp [sumBefore]

@[simp] theorem sumBefore_cons_ne {M : Type} [AddMonoid M] {i z : Fin 24} (h : i ≠ z) (l : List (Fin 24))
    (f : Fin 24 → M) : sumBefore (i :: l) z f = f i + sumBefore l z f := by simp [sumBefore, h]

theorem sumBefore_congr {M : Type} [AddMonoid M] {l : List (Fin 24)} {f g : Fin 24 → M} (z : Fin 24)
    (h : ∀ y ∈ l, f y = g y) : sumBefore l z f = sumBefore l z g := by
  unfold sumBefore
  exact congrArg List.sum (List.map_congr_left fun y hy => h y (List.takeWhile_prefix _ |>.subset hy))

theorem sumBefore_nonneg {l : List (Fin 24)} {f : Fin 24 → Int} (z : Fin 24) (h : ∀ y, 0 ≤ f y) :
    0 ≤ sumBefore l z f :=
  List.sum_nonneg fun x hx => by
    obtain ⟨y, -, rfl⟩ := List.mem_map.mp hx
    exact h y

/-- The entries before `z` and `z` itself sum to no more than the whole list. -/
theorem sumBefore_add_le_sum {l : List (Fin 24)} {f : Fin 24 → Int} (hf : ∀ y, 0 ≤ f y) {z : Fin 24} (hz : z ∈ l) :
    sumBefore l z f + f z ≤ (l.map f).sum := by
  induction l with
  | nil => cases hz
  | cons i l ih =>
    rw [List.map_cons, List.sum_cons]
    by_cases hi : i = z
    · subst hi
      have : 0 ≤ (l.map f).sum := List.sum_nonneg fun x hx => by
        obtain ⟨y, -, rfl⟩ := List.mem_map.mp hx
        exact hf y
      rw [sumBefore_cons_self]
      omega
    · have := ih ((List.mem_cons.mp hz).resolve_left (Ne.symm hi))
      rw [sumBefore_cons_ne hi]
      omega

/-- Of two entries of a list, one is wholly before the other. -/
theorem sumBefore_apart {l : List (Fin 24)} {f : Fin 24 → Int} (hf : ∀ y, 0 ≤ f y) {y z : Fin 24} (hne : y ≠ z)
    (hy : y ∈ l) (hz : z ∈ l) :
    sumBefore l y f + f y ≤ sumBefore l z f ∨ sumBefore l z f + f z ≤ sumBefore l y f := by
  induction l with
  | nil => cases hy
  | cons i l ih =>
    by_cases hiy : i = y
    · subst hiy
      have := sumBefore_nonneg (l := l) z hf
      rw [sumBefore_cons_self, sumBefore_cons_ne hne]
      omega
    · by_cases hiz : i = z
      · subst hiz
        have := sumBefore_nonneg (l := l) y hf
        rw [sumBefore_cons_self, sumBefore_cons_ne hiy]
        omega
      · have := ih ((List.mem_cons.mp hy).resolve_left (Ne.symm hiy)) ((List.mem_cons.mp hz).resolve_left (Ne.symm hiz))
        rw [sumBefore_cons_ne hiy, sumBefore_cons_ne hiz]
        omega

/-- Sums of natural parts of figures that are not negative. -/
theorem cast_sumBefore_toNat (l : List (Fin 24)) (z : Fin 24) {f : Fin 24 → Int} (hf : ∀ y, 0 ≤ f y) :
    ((sumBefore l z fun y => (f y).toNat : Nat) : Int) = sumBefore l z f := by
  simp [sumBefore, List.map_map, Function.comp_def, hf]

/-- In a list that rises by `rank`, the entries before `z` are those of smaller rank. -/
theorem sum_ite_rank_eq_sumBefore {rank : Fin 24 → Nat} {f : Fin 24 → Int} {z : Fin 24} {l : List (Fin 24)}
    (hl : l.Pairwise fun x y => rank x < rank y) (hz : z ∈ l) :
    (l.map fun y => if rank y < rank z then f y else 0).sum = sumBefore l z f := by
  induction l with
  | nil => cases hz
  | cons i l ih =>
    obtain ⟨hi, hl⟩ := List.pairwise_cons.mp hl
    rw [List.map_cons, List.sum_cons]
    by_cases e : i = z
    · subst e
      have later : (l.map fun y => if rank y < rank i then f y else 0) = l.map fun _ => 0 :=
        List.map_congr_left fun y hy => if_neg (Nat.lt_asymm (hi y hy))
      simp [later]
    · have hz := (List.mem_cons.mp hz).resolve_left (Ne.symm e)
      rw [if_pos (hi z hz), ih hl hz, sumBefore_cons_ne e]

/-! ## Pass order (R31) -/

/-- A zone's place in pass order. -/
def passPlace (pointer z : Fin 24) : Nat := (z.val + 24 - pointer.val) % 24

theorem passPlace_add (pointer k : Fin 24) : passPlace pointer (pointer + k) = k.val := by
  rw [passPlace, Fin.val_add]
  omega

theorem passOrder_pairwise (pointer : Fin 24) :
    (passOrder pointer).Pairwise fun x y => passPlace pointer x < passPlace pointer y := by
  refine List.pairwise_map.mpr ((List.pairwise_lt_finRange 24).imp fun {i j} h => ?_)
  rw [passPlace_add, passPlace_add]
  exact h

theorem passOrder_nodup (pointer : Fin 24) : (passOrder pointer).Nodup :=
  (passOrder_pairwise pointer).imp fun h e => absurd (e ▸ h) (Nat.lt_irrefl _)

theorem mem_passOrder (pointer z : Fin 24) : z ∈ passOrder pointer :=
  List.mem_map.mpr ⟨z - pointer, List.mem_finRange _, by omega⟩

theorem passOrder_perm (pointer : Fin 24) : (List.finRange 24).Perm (passOrder pointer) :=
  (List.perm_ext_iff_of_nodup (List.nodup_finRange 24) (passOrder_nodup pointer)).mpr fun z => by
    simp [mem_passOrder]

/-- A sum over the zones is one over pass order. -/
theorem sum_finRange_eq_passOrder (pointer : Fin 24) (f : Fin 24 → Int) :
    ((List.finRange 24).map f).sum = ((passOrder pointer).map f).sum :=
  ((passOrder_perm pointer).map f).sum_eq

/-- The zones of a smaller place are those before a zone in pass order. -/
theorem sum_passPlace_lt (pointer z : Fin 24) (f : Fin 24 → Int) :
    ((List.finRange 24).map fun y => if passPlace pointer y < passPlace pointer z then f y else 0).sum =
      sumBefore (passOrder pointer) z f := by
  rw [sum_finRange_eq_passOrder pointer]
  exact sum_ite_rank_eq_sumBefore (passOrder_pairwise pointer) (mem_passOrder pointer z)

/-! ## One pass (R32 to R34) -/

/-- What each zone takes when those of `order` are served one after another, `amount i left` to zone `i` out of `left`
slots; a zone that is not served takes nothing. -/
def shares (amount : Fin 24 → Int → Int) : List (Fin 24) → Int → Fin 24 → Int
  | [], _, _ => 0
  | i :: rest, left, z => if z = i then amount i left else shares amount rest (left - amount i left) z

@[simp] theorem shares_cons_self (amount : Fin 24 → Int → Int) (i : Fin 24) (rest : List (Fin 24)) (left : Int) :
    shares amount (i :: rest) left i = amount i left := if_pos rfl

theorem shares_cons_ne (amount : Fin 24 → Int → Int) {i z : Fin 24} (h : z ≠ i) (rest : List (Fin 24)) (left : Int) :
    shares amount (i :: rest) left z = shares amount rest (left - amount i left) z := if_neg h

/-- Once zone `i` has been served, the rest of the list is served from what it has left. -/
theorem map_shares_cons (amount : Fin 24 → Int → Int) {i : Fin 24} {rest : List (Fin 24)} (hi : i ∉ rest) (left : Int) :
    rest.map (shares amount (i :: rest) left) = rest.map (shares amount rest (left - amount i left)) :=
  List.map_congr_left fun _ hy => shares_cons_ne amount (ne_of_mem_of_not_mem hy hi) rest left

/-- Each zone is served from what those before it have left. -/
theorem shares_eq (amount : Fin 24 → Int → Int) {order : List (Fin 24)} (hn : order.Nodup) (left : Int) {z : Fin 24}
    (hz : z ∈ order) :
    shares amount order left z = amount z (left - sumBefore order z (shares amount order left)) := by
  induction order generalizing left with
  | nil => cases hz
  | cons i rest ih =>
    obtain ⟨hi, hn⟩ := List.nodup_cons.mp hn
    by_cases e : z = i
    · subst e; simp
    · have before : sumBefore rest z (shares amount (i :: rest) left) =
          sumBefore rest z (shares amount rest (left - amount i left)) :=
        sumBefore_congr z fun y hy => shares_cons_ne amount (ne_of_mem_of_not_mem hy hi) rest left
      rw [shares_cons_ne amount e, ih hn _ ((List.mem_cons.mp hz).resolve_left e), sumBefore_cons_ne (Ne.symm e),
        before, shares_cons_self]
      congr 1
      omega

theorem shares_out {amount : Fin 24 → Int → Int} {order : List (Fin 24)} {z : Fin 24} (hz : z ∉ order) (left : Int) :
    shares amount order left z = 0 := by
  induction order generalizing left with
  | nil => rfl
  | cons i rest ih =>
    obtain ⟨hzi, hz⟩ := not_or.mp (mt List.mem_cons.mpr hz)
    rw [shares_cons_ne amount hzi, ih hz]

/-- A pass that gives no zone less than nothing, or more than there is, keeps within its capacity. -/
theorem sum_shares_le {amount : Fin 24 → Int → Int}
    (ha : ∀ i left, 0 ≤ left → 0 ≤ amount i left ∧ amount i left ≤ left) {order : List (Fin 24)} (hn : order.Nodup)
    {left : Int} (hl : 0 ≤ left) : (order.map (shares amount order left)).sum ≤ left := by
  induction order generalizing left with
  | nil => simpa using hl
  | cons i rest ih =>
    obtain ⟨hi, hn⟩ := List.nodup_cons.mp hn
    have := ih hn (left := left - amount i left) (by have := ha i left hl; omega)
    rw [List.map_cons, List.sum_cons, shares_cons_self, map_shares_cons amount hi]
    omega

theorem shares_nonneg {amount : Fin 24 → Int → Int}
    (ha : ∀ i left, 0 ≤ left → 0 ≤ amount i left ∧ amount i left ≤ left) (order : List (Fin 24)) {left : Int}
    (hl : 0 ≤ left) (z : Fin 24) : 0 ≤ shares amount order left z := by
  induction order generalizing left with
  | nil => exact Int.le_refl 0
  | cons i rest ih =>
    obtain ⟨h0, h1⟩ := ha i left hl
    by_cases e : z = i
    · subst e; simpa using h0
    · rw [shares_cons_ne amount e]
      exact ih (by omega)

/-- An allotment with `x` more slots granted to zone `i`. -/
def give (a : Allotment) (i : Fin 24) (x : Int) : Allotment :=
  ⟨a.zones.modify i fun q => { q with granted := q.granted + x }, a.left - x⟩

/-- Changing an entry in two ways that agree on it gives the same table. -/
theorem modify_congr {α : Type} {n : Nat} {t : Tab α n} {i : Fin n} {f g : α → α} (h : f (t.get i) = g (t.get i)) :
    t.modify i f = t.modify i g := congrArg (t.set i) h

theorem give_zero (a : Allotment) (i : Fin 24) : give a i 0 = a := by
  have same : (a.zones.modify i fun q => { q with granted := q.granted + 0 }) = a.zones :=
    Tab.ext_get fun z => by
      rw [Tab.get_modify]
      split
      · next e => subst e; simp
      · rfl
  unfold give
  rw [same, Int.sub_zero]

/-- A pass whose every step gives zone `i` what `amount` says has given each zone its share. -/
theorem foldl_eq_shares {step : Allotment → Fin 24 → Allotment} {amount : Fin 24 → Int → Int}
    {order : List (Fin 24)} (hn : order.Nodup) (a : Allotment)
    (hstep : ∀ i ∈ order, ∀ b : Allotment, b.zones.get i = a.zones.get i → step b i = give b i (amount i b.left)) :
    order.foldl step a =
      ⟨a.zones.mapWith fun z q => { q with granted := q.granted + shares amount order a.left z },
        a.left - (order.map (shares amount order a.left)).sum⟩ := by
  induction order generalizing a with
  | nil =>
    have same : (a.zones.mapWith fun z q => { q with granted := q.granted + shares amount [] a.left z }) = a.zones :=
      Tab.ext_get fun z => by simp [shares]
    simp [same]
  | cons i rest ih =>
    obtain ⟨hi, hn⟩ := List.nodup_cons.mp hn
    have others {z : Fin 24} (hz : z ≠ i) (x : Int) : (give a i x).zones.get z = a.zones.get z :=
      Tab.get_modify_other _ hz _
    rw [List.foldl_cons, hstep i (List.mem_cons_self ..) a rfl, ih hn]
    · congr 1
      · refine Tab.ext_get fun z => ?_
        rw [Tab.get_mapWith, Tab.get_mapWith]
        by_cases e : z = i
        · subst e
          have none : shares amount rest (a.left - amount z a.left) z = 0 := shares_out hi _
          simp [give, none]
        · rw [others e, shares_cons_ne amount e]
          rfl
      · rw [List.map_cons, List.sum_cons, shares_cons_self, map_shares_cons amount hi]
        simp only [give]
        omega
    · intro j hj b hb
      have hji : j ≠ i := ne_of_mem_of_not_mem hj hi
      exact hstep j (List.mem_cons_of_mem _ hj) b (hb.trans (others hji _))

/-! ## The three passes of an allocation (R32 to R34) -/

/-- What a zone of the class served is given out of the slots left (R32, R33). -/
def entitled (s : State) (serves : Fin 24 → Bool) (i : Fin 24) (left : Int) : Int :=
  if (s.zone i).heated && serves i then min (s.zone i).entitlement left else 0

/-- What each zone takes in the cure pass (R32). -/
def cureShare (s : State) (limit : Nat) : Fin 24 → Int :=
  shares (entitled s s.cureClass) (passOrder s.alloc.pointer) (20 * (limit : Int))

/-- What the cure pass leaves. -/
def afterCure (s : State) (limit : Nat) : Int :=
  20 * (limit : Int) - ((passOrder s.alloc.pointer).map (cureShare s limit)).sum

/-- What each zone takes in the normal pass (R33). -/
def normalShare (s : State) (limit : Nat) : Fin 24 → Int :=
  shares (entitled s fun j => !s.cureClass j) (passOrder s.alloc.pointer) (afterCure s limit)

/-- What the normal pass leaves. -/
def afterNormal (s : State) (limit : Nat) : Int :=
  afterCure s limit - ((passOrder s.alloc.pointer).map (normalShare s limit)).sum

/-- What a zone of the normal class is given on top, with levelling on (R34). -/
def levelled (s : State) (limit : Nat) (i : Fin 24) (left : Int) : Int :=
  if s.image.settings.levelling && (s.zone i).heated && !s.cureClass i then
    max 0 (min (20 - normalShare s limit i)
      (min left (8 + (s.zone i).carry + (s.zone i).requested - normalShare s limit i)))
  else 0

/-- What each zone takes in the levelling pass (R34). -/
def extraShare (s : State) (limit : Nat) : Fin 24 → Int :=
  shares (levelled s limit) (passOrder s.alloc.pointer) (afterNormal s limit)

/-- The slots an allocation grants a zone. -/
def grantOf (s : State) (limit : Nat) (z : Fin 24) : Int :=
  cureShare s limit z + normalShare s limit z + extraShare s limit z

theorem clamp_eq (lo hi x : Int) (h : lo ≤ hi) : clamp lo hi x = max lo (min hi x) := by
  unfold clamp; omega

theorem entitlement_range (z : Zone) : 0 ≤ z.entitlement ∧ z.entitlement ≤ 20 := by
  rw [Zone.entitlement, clamp_eq _ _ _ (by decide)]; omega

theorem entitled_range (s : State) (serves : Fin 24 → Bool) (i : Fin 24) (left : Int) (h : 0 ≤ left) :
    0 ≤ entitled s serves i left ∧ entitled s serves i left ≤ left := by
  have := entitlement_range (s.zone i)
  unfold entitled
  split <;> omega

theorem levelled_range (s : State) (limit : Nat) (i : Fin 24) (left : Int) (h : 0 ≤ left) :
    0 ≤ levelled s limit i left ∧ levelled s limit i left ≤ left := by
  unfold levelled
  split <;> omega

theorem afterCure_nonneg (s : State) (limit : Nat) : 0 ≤ afterCure s limit := by
  have := sum_shares_le (entitled_range s s.cureClass) (passOrder_nodup s.alloc.pointer)
    (left := 20 * (limit : Int)) (by omega)
  unfold afterCure cureShare
  omega

theorem afterNormal_nonneg (s : State) (limit : Nat) : 0 ≤ afterNormal s limit := by
  have := sum_shares_le (entitled_range s fun j => !s.cureClass j) (passOrder_nodup s.alloc.pointer)
    (afterCure_nonneg s limit)
  unfold afterNormal normalShare
  omega

theorem cureShare_eq (s : State) (limit : Nat) (z : Fin 24) :
    cureShare s limit z =
      entitled s s.cureClass z (20 * (limit : Int) - sumBefore (passOrder s.alloc.pointer) z (cureShare s limit)) :=
  shares_eq _ (passOrder_nodup _) _ (mem_passOrder _ z)

theorem normalShare_eq (s : State) (limit : Nat) (z : Fin 24) :
    normalShare s limit z =
      entitled s (fun j => !s.cureClass j) z
        (afterCure s limit - sumBefore (passOrder s.alloc.pointer) z (normalShare s limit)) :=
  shares_eq _ (passOrder_nodup _) _ (mem_passOrder _ z)

theorem extraShare_eq (s : State) (limit : Nat) (z : Fin 24) :
    extraShare s limit z =
      levelled s limit z (afterNormal s limit - sumBefore (passOrder s.alloc.pointer) z (extraShare s limit)) :=
  shares_eq _ (passOrder_nodup _) _ (mem_passOrder _ z)

theorem cureShare_nonneg (s : State) (limit : Nat) (z : Fin 24) : 0 ≤ cureShare s limit z :=
  shares_nonneg (entitled_range s _) _ (by omega) z

theorem normalShare_nonneg (s : State) (limit : Nat) (z : Fin 24) : 0 ≤ normalShare s limit z :=
  shares_nonneg (entitled_range s _) _ (afterCure_nonneg s limit) z

theorem extraShare_nonneg (s : State) (limit : Nat) (z : Fin 24) : 0 ≤ extraShare s limit z :=
  shares_nonneg (levelled_range s limit) _ (afterNormal_nonneg s limit) z

/-- A zone that is not heated is granted nothing; one of the cure class takes part in the cure pass alone, within its
entitlement; one of the normal class in the two others, the first within its entitlement. -/
theorem shares_by_class (s : State) (limit : Nat) (z : Fin 24) :
    ((s.zone z).heated = false ∧ cureShare s limit z = 0 ∧ normalShare s limit z = 0 ∧ extraShare s limit z = 0) ∨
    ((s.zone z).heated = true ∧ s.cureClass z = true ∧ cureShare s limit z ≤ (s.zone z).entitlement ∧
      normalShare s limit z = 0 ∧ extraShare s limit z = 0) ∨
    ((s.zone z).heated = true ∧ s.cureClass z = false ∧ cureShare s limit z = 0 ∧
      normalShare s limit z ≤ (s.zone z).entitlement ∧
      extraShare s limit z ≤ max 0 (min (20 - normalShare s limit z)
        (8 + (s.zone z).carry + (s.zone z).requested - normalShare s limit z))) := by
  have hc := cureShare_eq s limit z
  have hn := normalShare_eq s limit z
  have hx := extraShare_eq s limit z
  unfold entitled at hc hn
  unfold levelled at hx
  cases hh : (s.zone z).heated
  · simp only [hh, Bool.false_and, Bool.and_false] at hc hn hx
    exact .inl ⟨rfl, hc, hn, hx⟩
  · cases hk : s.cureClass z
    · simp only [hh, hk, Bool.and_false, Bool.not_false, Bool.and_true, if_true] at hc hn hx
      refine .inr (.inr ⟨rfl, rfl, hc, by omega, ?_⟩)
      split at hx <;> omega
    · simp only [hh, hk, Bool.not_true, Bool.and_false, Bool.and_true, if_true] at hc hn hx
      exact .inr (.inl ⟨rfl, rfl, by omega, hn, hx⟩)

theorem cureShare_of_normal_class {s : State} {z : Fin 24} (h : s.cureClass z = false) (limit : Nat) :
    cureShare s limit z = 0 := by
  rcases shares_by_class s limit z with ⟨-, h0, -⟩ | ⟨-, hk, -⟩ | ⟨-, -, h0, -⟩
  · exact h0
  · rw [h] at hk; cases hk
  · exact h0

theorem grantOf_nonneg (s : State) (limit : Nat) (z : Fin 24) : 0 ≤ grantOf s limit z := by
  have := cureShare_nonneg s limit z
  have := normalShare_nonneg s limit z
  have := extraShare_nonneg s limit z
  unfold grantOf
  omega

theorem grantOf_le (s : State) (limit : Nat) (z : Fin 24) : grantOf s limit z ≤ 20 := by
  have := entitlement_range (s.zone z)
  have := shares_by_class s limit z
  unfold grantOf
  omega

/-- All the grants of an allocation fit into its capacity (R27). -/
theorem sum_grantOf_le (s : State) (limit : Nat) :
    ((passOrder s.alloc.pointer).map (cureShare s limit)).sum +
      ((passOrder s.alloc.pointer).map (normalShare s limit)).sum +
      ((passOrder s.alloc.pointer).map (extraShare s limit)).sum ≤ 20 * (limit : Int) := by
  have hx := sum_shares_le (levelled_range s limit) (passOrder_nodup s.alloc.pointer) (afterNormal_nonneg s limit)
  change ((passOrder s.alloc.pointer).map (extraShare s limit)).sum ≤ _ at hx
  unfold afterNormal afterCure at hx
  omega

/-- The zones of a pass: those of `s`, but for the slots granted so far. -/
def GrantedSoFar (s : State) (g : Fin 24 → Int) (zones : Tab Zone 24) : Prop :=
  ∀ z, zones.get z = { s.zone z with granted := g z }

/-- One zone of the cure or the normal pass. -/
theorem grant_eq_give {s : State} {serves : Fin 24 → Bool} {b : Allotment} {i : Fin 24} {g : Int}
    (hb : b.zones.get i = { s.zone i with granted := g }) (hg : serves i = true → g = 0) :
    b.grant serves i = give b i (entitled s serves i b.left) := by
  have heated : (b.zones.get i).heated = (s.zone i).heated := by rw [hb]; rfl
  have entitlement : (b.zones.get i).entitlement = (s.zone i).entitlement := by rw [hb]; rfl
  unfold Allotment.grant entitled
  rw [heated, entitlement]
  split
  · next h =>
    have none : (b.zones.get i).granted = 0 := by rw [hb]; exact hg (Bool.and_eq_true_iff.mp h).2
    unfold give
    rw [modify_congr]
    simp [none]
  · exact (give_zero b i).symm

/-- One zone of the levelling pass. -/
theorem level_eq_give {s : State} {limit : Nat} (hlev : s.image.settings.levelling = true) {b : Allotment} {i : Fin 24}
    (hb : b.zones.get i = { s.zone i with granted := cureShare s limit i + normalShare s limit i }) :
    b.level (fun j => !s.cureClass j) i = give b i (levelled s limit i b.left) := by
  have heated : (b.zones.get i).heated = (s.zone i).heated := by rw [hb]; rfl
  unfold Allotment.level levelled
  rw [heated, hlev, Bool.true_and]
  split
  · next h =>
    obtain ⟨-, hk⟩ := Bool.and_eq_true_iff.mp h
    have none : cureShare s limit i = 0 := cureShare_of_normal_class (by simpa using hk) limit
    have extra : (b.zones.get i).extra b.left = min (20 - normalShare s limit i)
        (min b.left (8 + (s.zone i).carry + (s.zone i).requested - normalShare s limit i)) := by
      rw [hb]; simp [Zone.extra, none]
    dsimp only
    rw [← extra]
    split
    · rw [Int.max_eq_right (by omega)]; rfl
    · rw [Int.max_eq_left (by omega), give_zero]
  · exact (give_zero b i).symm

/-- The allotment before the first pass: nothing granted, the whole capacity left (R27). -/
def unallotted (s : State) (limit : Nat) : Allotment :=
  ⟨s.zones.mapWith fun _ z => { z with granted := 0 }, 20 * (limit : Int)⟩

/-- An allotment after a pass over one class, in pass order. -/
def served (s : State) (serves : Fin 24 → Bool) (a : Allotment) : Allotment :=
  (passOrder s.alloc.pointer).foldl (fun a i => a.grant serves i) a

/-- The allotment after the cure pass and the normal pass. -/
def normalAllotment (s : State) (limit : Nat) : Allotment :=
  served s (fun j => !s.cureClass j) (served s s.cureClass (unallotted s limit))

theorem passes_eq (s : State) (limit : Nat) :
    s.passes limit =
      if s.image.settings.levelling then
        (passOrder s.alloc.pointer).foldl (fun a i => a.level (fun j => !s.cureClass j) i) (normalAllotment s limit)
      else normalAllotment s limit := rfl

/-- The cure and the normal pass: a class none of whose zones has been granted anything is given its entitlements. -/
theorem served_eq {s : State} {serves : Fin 24 → Bool} {a : Allotment} {g : Fin 24 → Int}
    (ha : GrantedSoFar s g a.zones) (hg : ∀ i, serves i = true → g i = 0) {share : Fin 24 → Int}
    (hs : shares (entitled s serves) (passOrder s.alloc.pointer) a.left = share) :
    GrantedSoFar s (fun z => g z + share z) (served s serves a).zones ∧
      (served s serves a).left = a.left - ((passOrder s.alloc.pointer).map share).sum := by
  rw [served, foldl_eq_shares (passOrder_nodup _) a fun i _ b hb => grant_eq_give (hb.trans (ha i)) (hg i), hs]
  exact ⟨fun z => by rw [Tab.get_mapWith, ha z], rfl⟩

theorem normalAllotment_eq (s : State) (limit : Nat) :
    GrantedSoFar s (fun z => cureShare s limit z + normalShare s limit z) (normalAllotment s limit).zones ∧
      (normalAllotment s limit).left = afterNormal s limit := by
  have start : GrantedSoFar s (fun _ => 0) (unallotted s limit).zones := fun z => Tab.get_mapWith ..
  obtain ⟨cured, leftCured⟩ := served_eq start (fun _ _ => rfl) (share := cureShare s limit) rfl
  obtain ⟨normal, leftNormal⟩ := served_eq cured (serves := fun j => !s.cureClass j) (share := normalShare s limit)
    (fun i hi => by rw [cureShare_of_normal_class (by simpa using hi)]; rfl) (by rw [leftCured]; rfl)
  refine ⟨fun z => (normal z).trans ?_, by rw [normalAllotment, leftNormal, leftCured]; rfl⟩
  simp only [Int.zero_add]

/-- With levelling off the levelling pass gives nothing. -/
theorem extraShare_of_levelling_off {s : State} (h : s.image.settings.levelling = false) (limit : Nat) (z : Fin 24) :
    extraShare s limit z = 0 := by
  rw [extraShare_eq, levelled, h]
  rfl

/-- The passes grant each zone its shares, and change nothing else of it. -/
theorem passes_granted (s : State) (limit : Nat) : GrantedSoFar s (grantOf s limit) (s.passes limit).zones := by
  obtain ⟨normal, left⟩ := normalAllotment_eq s limit
  intro z
  rw [passes_eq]
  split
  · next hlev =>
    rw [foldl_eq_shares (passOrder_nodup _) _ fun i _ b hb => level_eq_give hlev (hb.trans (normal i)), left,
      Tab.get_mapWith, normal z]
    rfl
  · next hlev =>
    rw [normal z, grantOf, extraShare_of_levelling_off (Bool.not_eq_true _ ▸ hlev), Int.add_zero]

/-! ## The placement (R38) -/

theorem placeRuns_get_other {order : List (Fin 24)} (pos : Nat) (zones : Tab Zone 24) {z : Fin 24} (hz : z ∉ order) :
    (placeRuns order pos zones).get z = zones.get z := by
  induction order generalizing pos zones with
  | nil => rfl
  | cons i rest ih =>
    obtain ⟨hzi, hz⟩ := not_or.mp (mt List.mem_cons.mpr hz)
    rw [placeRuns, ih _ _ hz, Tab.get_modify_other _ hzi]

/-- A zone's run begins where the runs of the zones before it in the order end. -/
theorem placeRuns_get {order : List (Fin 24)} (hn : order.Nodup) (pos : Nat) (zones : Tab Zone 24) {z : Fin 24}
    (hz : z ∈ order) :
    (placeRuns order pos zones).get z =
      { zones.get z with start := pos + sumBefore order z fun y => (zones.get y).granted.toNat } := by
  induction order generalizing pos zones with
  | nil => cases hz
  | cons i rest ih =>
    obtain ⟨hi, hn⟩ := List.nodup_cons.mp hn
    rw [placeRuns]
    by_cases e : z = i
    · subst e
      rw [placeRuns_get_other _ _ hi, Tab.get_modify_same, sumBefore_cons_self]
      rfl
    · have granted : (fun y => ((zones.modify i fun q => { q with start := pos }).get y).granted.toNat) =
          fun y => (zones.get y).granted.toNat := funext fun y => by
        rw [Tab.get_modify]
        split
        · next h => rw [h]
        · rfl
      rw [ih hn _ _ ((List.mem_cons.mp hz).resolve_left e), granted, Tab.get_modify_other _ e,
        sumBefore_cons_ne (Ne.symm e), Nat.add_assoc]

/-! ## What an allocation does (R28 to R38) -/

theorem writeBound_link (s : State) (p : Fin 4) (f : OpenRecord → OpenRecord) : (s.writeBound p f).link = s.link := by
  unfold State.writeBound
  split <;> rfl

/-- Charging a press for its dropped slots touches its part's record and the pending sets only (R36, R37). -/
theorem chargeShortfall_pressOnly (granted : Tab Zone 24) (s : State) (p : Fin 4) :
    PressOnly p s (s.chargeShortfall granted p) := by
  unfold State.chargeShortfall
  dsimp only
  split
  · exact PressOnly.refl s
  · split
    · exact (PressOnly.raise s _ _).trans (PressOnly.writeBound _ _)
    · exact PressOnly.raise s _ _

theorem chargeShortfall_pending (granted : Tab Zone 24) (s : State) (p : Fin 4) :
    (s.chargeShortfall granted p).link.pending =
      if droppedBy granted p = 0 then s.link.pending
      else s.link.pending.modify (Source.press p).index (addKind .shortfall) := by
  unfold State.chargeShortfall
  dsimp only
  split
  · rfl
  · split
    · rw [writeBound_link, State.raise_link_pending]
    · rw [State.raise_link_pending]

/-- A pending SHORTFALL stays pending while presses are charged. -/
theorem chargeShortfall_keeps_pending {granted : Tab Zone 24} {s : State} {i : Fin 6}
    (h : EventKind.shortfall ∈ s.link.pending.get i) (p : Fin 4) :
    EventKind.shortfall ∈ (s.chargeShortfall granted p).link.pending.get i := by
  rw [chargeShortfall_pending]
  split
  · exact h
  · rw [Tab.get_modify]
    split
    · exact mem_addKind.mpr (.inl rfl)
    · exact h

theorem foldl_chargeShortfall_keeps_pending {granted : Tab Zone 24} (ps : List (Fin 4)) {s : State} {i : Fin 6}
    (h : EventKind.shortfall ∈ s.link.pending.get i) :
    EventKind.shortfall ∈ (ps.foldl (State.chargeShortfall granted) s).link.pending.get i := by
  induction ps generalizing s with
  | nil => exact h
  | cons p ps ih => exact ih (chargeShortfall_keeps_pending h p)

/-- Every press whose zones drop slots has SHORTFALL pending (R36). -/
theorem shortfall_pending_of_dropped {granted : Tab Zone 24} {p : Fin 4} (hd : droppedBy granted p ≠ 0)
    {ps : List (Fin 4)} (hp : p ∈ ps) (s : State) :
    EventKind.shortfall ∈
      (ps.foldl (State.chargeShortfall granted) s).link.pending.get (Source.press p).index := by
  induction ps generalizing s with
  | nil => cases hp
  | cons q ps ih =>
    rw [List.foldl_cons]
    rcases List.mem_cons.mp hp with rfl | hq
    · refine foldl_chargeShortfall_keeps_pending ps ?_
      rw [chargeShortfall_pending, if_neg hd, Tab.get_modify_same]
      exact mem_addKind.mpr (.inl rfl)
    · exact ih hq _

/-- The slots an allocation grants each zone, under the demand limit set (R27). -/
def granted (s : State) : Fin 24 → Int := grantOf s s.image.settings.demandLimit

/-- Charging presses changes neither zones nor allocator. -/
theorem foldl_chargeShortfall_frame (granted : Tab Zone 24) (ps : List (Fin 4)) (s : State) :
    (ps.foldl (State.chargeShortfall granted) s).zones = s.zones ∧
      (ps.foldl (State.chargeShortfall granted) s).alloc = s.alloc := by
  induction ps generalizing s with
  | nil => exact ⟨rfl, rfl⟩
  | cons p ps ih =>
    obtain ⟨hz, ha⟩ := ih (s.chargeShortfall granted p)
    have step := (chargeShortfall_pressOnly granted s p).eq
    rw [List.foldl_cons, hz, ha, step]
    exact ⟨rfl, rfl⟩

/-- The zones once the passes are over and the carries settled, every output off. -/
def settledZones (s : State) : Tab Zone 24 :=
  (s.passes s.image.settings.demandLimit).zones.mapWith fun _ z => { z.settleCarry with out := false }

theorem allocate_eq (s : State) :
    s.allocate =
      (List.finRange 4).foldl (State.chargeShortfall (s.passes s.image.settings.demandLimit).zones)
        { s with
          zones := placeRuns (passOrder s.alloc.pointer) 0 (settledZones s),
          alloc := ⟨s.alloc.pointer + 1, some s.image.settings.demandLimit, 0⟩ } := rfl

theorem allocate_zones (s : State) :
    s.allocate.zones = placeRuns (passOrder s.alloc.pointer) 0 (settledZones s) := by
  rw [allocate_eq, (foldl_chargeShortfall_frame ..).1]

theorem allocate_alloc (s : State) :
    s.allocate.alloc = ⟨s.alloc.pointer + 1, some s.image.settings.demandLimit, 0⟩ := by
  rw [allocate_eq, (foldl_chargeShortfall_frame ..).2]

theorem settleCarry_granted (z : Zone) : z.settleCarry.granted = z.granted := by
  unfold Zone.settleCarry; split <;> rfl

theorem settleCarry_state (z : Zone) : z.settleCarry.state = z.state := by
  unfold Zone.settleCarry; split <;> rfl

theorem settledZones_get (s : State) (z : Fin 24) :
    (settledZones s).get z =
      { ({ s.zone z with granted := granted s z } : Zone).settleCarry with out := false } := by
  rw [settledZones, Tab.get_mapWith, passes_granted s _ z]
  rfl

theorem settledZones_granted (s : State) (z : Fin 24) : ((settledZones s).get z).granted = granted s z := by
  rw [settledZones_get]
  exact settleCarry_granted _

/-- Every zone after an allocation: its grant, its carry settled, its output off and its run placed. -/
theorem allocate_zone (s : State) (z : Fin 24) :
    s.allocate.zone z =
      { ({ s.zone z with granted := granted s z } : Zone).settleCarry with
        out := false,
        start := sumBefore (passOrder s.alloc.pointer) z fun y => (granted s y).toNat } := by
  rw [State.zone, allocate_zones, placeRuns_get (passOrder_nodup _) _ _ (mem_passOrder _ z), settledZones_get]
  simp only [settledZones_granted, Nat.zero_add]

theorem allocate_granted (s : State) (z : Fin 24) : (s.allocate.zone z).granted = granted s z := by
  rw [allocate_zone]
  exact settleCarry_granted _

theorem granted_nonneg (s : State) (z : Fin 24) : 0 ≤ granted s z := grantOf_nonneg s _ z

/-- All the grants fit into the capacity of the limit (R27). -/
theorem sum_granted_le (s : State) :
    ((passOrder s.alloc.pointer).map (granted s)).sum ≤ 20 * (s.image.settings.demandLimit : Int) := by
  have split := sum_grantOf_le s s.image.settings.demandLimit
  rw [← List.sum_map_add, ← List.sum_map_add] at split
  exact split

theorem allocate_start (s : State) (z : Fin 24) :
    ((s.allocate.zone z).start : Int) = sumBefore (passOrder s.alloc.pointer) z (granted s) := by
  rw [allocate_zone]
  exact cast_sumBefore_toNat _ z (granted_nonneg s)

theorem allocate_out (s : State) (z : Fin 24) : (s.allocate.zone z).out = false := by rw [allocate_zone]

theorem allocate_state (s : State) (z : Fin 24) : (s.allocate.zone z).state = (s.zone z).state := by
  rw [allocate_zone]
  exact settleCarry_state _

theorem satAdd_eq (top n k : Nat) : satAdd top n k = min top (n + k) := by
  unfold satAdd
  split <;> omega

/-- A heated zone's carry is held at +8, and what is above it is starved (R35, R36). -/
theorem allocate_heated {s : State} {z : Fin 24} (h : (s.zone z).heated = true) :
    (s.allocate.zone z).carry = min 8 ((s.zone z).carry + (s.zone z).requested - granted s z) ∧
      (s.allocate.zone z).starved =
        min 4294967295 ((s.zone z).starved + ((s.zone z).carry + (s.zone z).requested - granted s z - 8).toNat) := by
  have h' : ({ s.zone z with granted := granted s z } : Zone).heated = true := h
  rw [allocate_zone, Zone.settleCarry, if_pos h', Zone.dropped, if_pos h']
  exact ⟨rfl, satAdd_eq ..⟩

/-- A zone that is not heated has no carry, and its starved-slot total stays (R29). -/
theorem allocate_not_heated {s : State} {z : Fin 24} (h : (s.zone z).heated = false) :
    (s.allocate.zone z).carry = 0 ∧ (s.allocate.zone z).starved = (s.zone z).starved := by
  have h' : ¬({ s.zone z with granted := granted s z } : Zone).heated = true := by rw [← Bool.not_eq_true] at h; exact h
  rw [allocate_zone, Zone.settleCarry, if_neg h']
  exact ⟨rfl, rfl⟩

theorem zoneAt_zonePress (z : Fin 24) : zoneAt (zonePress z) (zonePos z) = z :=
  Fin.ext (by simp only [zoneAt, zonePress, zonePos]; omega)

/-- SHORTFALL is pending on the press of a zone that drops slots (R36). -/
theorem allocate_shortfall {s : State} {z : Fin 24} (h : (s.zone z).heated = true)
    (hd : 8 < (s.zone z).carry + (s.zone z).requested - granted s z) :
    EventKind.shortfall ∈ s.allocate.link.pending.get (Source.press (zonePress z)).index := by
  rw [allocate_eq]
  refine shortfall_pending_of_dropped (fun none => ?_) (List.mem_finRange _) _
  have all := List.sum_eq_zero_iff.mp none
  have here := all _ (List.mem_map.mpr ⟨zonePos z, List.mem_finRange _, rfl⟩)
  have h' : ({ s.zone z with granted := granted s z } : Zone).heated = true := h
  rw [zoneAt_zonePress, passes_granted s _ z] at here
  change ({ s.zone z with granted := granted s z } : Zone).dropped = 0 at here
  rw [Zone.dropped, if_pos h'] at here
  simp only [Zone.rawCarry] at here
  omega

end Sys2Proof.Machine.HeaterPower

/-!
PROOF. The slots of the frame (O47) and the allocation (O49).
-/

namespace Sys2Proof.Machine.HeaterPower

/-! ## A slot (R26, R38, R39) -/

theorem zone_heated_iff (z : Zone) : z.heated = true ↔ z.state = .active ∨ z.state = .held := by
  simp [Zone.heated]

/-- A run of at most 20 positions is placed on a slot when one of its positions, modulo 20, is the slot (R38). -/
theorem placedOn_iff (z : Zone) {j : Nat} (hj : j < 20) :
    z.placedOn j = true ↔ ∃ k : Nat, k < 20 ∧ (k : Int) < z.granted ∧ (z.start + k) % 20 = j := by
  rw [Zone.placedOn, decide_eq_true_iff]
  constructor
  · intro h
    exact ⟨_, Nat.mod_lt _ (by decide), h, by omega⟩
  · rintro ⟨k, hk, hg, hs⟩
    have only : (j + 20 - z.start % 20) % 20 = k := by omega
    rwa [only]

theorem driveSlot_zone (s : State) (z : Fin 24) :
    s.driveSlot.zone z =
      { s.zone z with
        out := decide (s.alloc.slot < 20) && (s.zone z).heated && (s.zone z).placedOn s.alloc.slot } :=
  Tab.get_mapWith ..

/-- Settles O47: an output is on when the slot is one of the frame's, its zone heated and placed on it. -/
theorem aHeaterSlotDrivesThePlacedOutputs : Obligations.AHeaterSlotDrivesThePlacedOutputs := by
  unfold Obligations.AHeaterSlotDrivesThePlacedOutputs
  intro s hr
  have runs : exec .heaterSlot s = .next s.driveSlot := congrArg Host.Outcome.next (if_pos hr)
  refine ⟨s.driveSlot, runs, rfl, rfl, fun z => ?_⟩
  refine ⟨by rw [driveSlot_zone], ?_⟩
  rw [driveSlot_zone, Bool.and_eq_true, Bool.and_eq_true, decide_eq_true_iff, zone_heated_iff, and_assoc]
  exact and_congr_right fun hj => and_congr_right fun _ => placedOn_iff _ hj

/-! ## The allocation (R27 to R38) -/

/-- No grant takes a raw carry below -8: a grant up to the entitlement leaves it at least 0, or as the carry was, and
levelling stops at -8 (R30, R34, R35). -/
theorem raw_carry_ge {s : State} {z : Fin 24} (hs : (s.zone z).sound) (h : (s.zone z).heated = true) :
    -8 ≤ (s.zone z).carry + (s.zone z).requested - granted s z := by
  obtain ⟨-, -, -, -, -, ⟨hr, -⟩, -, ⟨hc, -⟩, -⟩ := hs
  have ent : (s.zone z).entitlement = max 0 (min 20 ((s.zone z).requested + (s.zone z).carry)) :=
    clamp_eq _ _ _ (by decide)
  rcases shares_by_class s s.image.settings.demandLimit z with ⟨hf, -⟩ | ⟨-, -, hcure, hn, hx⟩ | ⟨-, -, hcure, hn, hx⟩
  · rw [h] at hf; cases hf
  · rw [granted, grantOf]; omega
  · rw [granted, grantOf]; omega

theorem granted_of_not_heated {s : State} {z : Fin 24} (h : (s.zone z).heated = false) : granted s z = 0 := by
  rcases shares_by_class s s.image.settings.demandLimit z with ⟨-, hc, hn, hx⟩ | ⟨hf, -⟩ | ⟨hf, -⟩
  · rw [granted, grantOf, hc, hn, hx]; rfl
  · rw [h] at hf; cases hf
  · rw [h] at hf; cases hf

/-- Settles O49: the grants are the shares of the three passes, and the rest is what `allocate_zone` says. -/
theorem theAllocationServesTheCureClassFirst : Obligations.TheAllocationServesTheCureClassFirst := by
  unfold Obligations.TheAllocationServesTheCureClassFirst
  intro s hs t capacity place heated total before wants eligible inCure
  let limit := s.image.settings.demandLimit
  have heated_iff (z : Fin 24) : (s.zone z).heated = true ↔ heated z := zone_heated_iff _
  have total_eq (f : Fin 24 → Int) : total f = ((passOrder s.alloc.pointer).map f).sum :=
    sum_finRange_eq_passOrder _ f
  have before_eq (z : Fin 24) (f : Fin 24 → Int) : before z f = sumBefore (passOrder s.alloc.pointer) z f :=
    sum_passPlace_lt _ z f
  have wants_eq (z : Fin 24) : (s.zone z).entitlement = wants z := clamp_eq _ _ _ (by decide)
  have alloc : t.alloc = ⟨s.alloc.pointer + 1, some limit, 0⟩ := allocate_alloc s
  have granted_eq (z : Fin 24) : (t.zone z).granted = granted s z := allocate_granted s z
  refine ⟨fun z => ⟨rfl, rfl⟩, ?_, by rw [alloc], by rw [alloc], cureShare s limit, normalShare s limit,
    extraShare s limit, fun z => ?_, ?_, fun z => ?_, fun z => ?_, fun z => ?_, fun z => ?_⟩
  · rw [alloc, Fin.val_add]; rfl
  · rw [granted_eq]
    exact ⟨rfl, granted_nonneg s z, grantOf_le s limit z⟩
  · rw [total_eq, total_eq, total_eq]
    exact sum_grantOf_le s limit
  · rw [before_eq, ← wants_eq]
    exact (cureShare_eq s limit z).trans (if_congr Bool.and_eq_true_iff rfl rfl)
  · rw [before_eq, total_eq, ← wants_eq]
    refine (normalShare_eq s limit z).trans (if_congr ?_ rfl rfl)
    rw [Bool.and_eq_true, Bool.not_eq_true, Bool.not_eq_true']
    rfl
  · rw [before_eq, total_eq, total_eq]
    refine (extraShare_eq s limit z).trans (if_congr ?_ rfl rfl)
    rw [Bool.and_eq_true, Bool.and_eq_true, Bool.not_eq_true, Bool.not_eq_true', and_assoc, and_rotate]
    rfl
  · intro raw
    have raw_eq : raw = (s.zone z).carry + (s.zone z).requested - granted s z :=
      congrArg ((s.zone z).carry + (s.zone z).requested - ·) (granted_eq z)
    have sums : before z (fun y => (t.zone y).granted) = sumBefore (passOrder s.alloc.pointer) z (granted s) := by
      rw [before_eq, funext granted_eq]
    refine ⟨allocate_state s z, allocate_out s z, (allocate_start s z).trans sums.symm, fun h => ?_, fun h => ?_⟩
    · have h := (heated_iff z).mpr h
      obtain ⟨carry, starved⟩ := allocate_heated h
      rw [raw_eq]
      exact ⟨raw_carry_ge (hs z) h, carry, starved, allocate_shortfall h⟩
    · have h : (s.zone z).heated = false := Bool.eq_false_iff.mpr (mt (heated_iff z).mp h)
      obtain ⟨carry, starved⟩ := allocate_not_heated h
      exact ⟨carry, (granted_eq z).trans (granted_of_not_heated h), starved⟩

end Sys2Proof.Machine.HeaterPower

/-!
PROOF. The outputs that are on stay within the demand limit in force (O54). A slot turns on the outputs of runs that do
not overlap, an allocation lays such runs, a reset clears them, and every other command only lets the supply subside.
-/

namespace Sys2Proof.Machine.HeaterPower

/-! ## A slot keeps to the limit (R38) -/

/-- On a slot, a placed zone's position divided by 20: which of the limit's outputs it uses. -/
def outputUsed (z : Zone) (j : Nat) : Nat := (z.start + (j + 20 - z.start % 20) % 20) / 20

/-- Zones whose runs are apart never use the same output. -/
theorem outputUsed_ne_of_apart {y z : Zone} {j : Nat} (hj : j < 20) (hy : y.placedOn j = true)
    (hz : z.placedOn j = true) (h : y.apart z) : outputUsed y j ≠ outputUsed z j := by
  unfold Zone.placedOn at hy hz
  unfold Zone.apart at h
  rw [decide_eq_true_iff] at hy hz
  unfold outputUsed
  omega

theorem outputUsed_lt {z : Zone} {j limit : Nat} (hz : z.placedOn j = true)
    (h : (z.start : Int) + z.granted ≤ 20 * limit) : outputUsed z j < limit := by
  rw [Zone.placedOn, decide_eq_true_iff] at hz
  unfold outputUsed
  omega

theorem granted_pos_of_placedOn {z : Zone} {j : Nat} (h : z.placedOn j = true) : 0 < z.granted := by
  rw [Zone.placedOn, decide_eq_true_iff] at h
  omega

theorem driveSlot_out {s : State} {z : Fin 24} (h : (s.driveSlot.zone z).out = true) :
    s.alloc.slot < 20 ∧ (s.zone z).placedOn s.alloc.slot = true := by
  rw [driveSlot_zone] at h
  simp only [Bool.and_eq_true, decide_eq_true_eq] at h
  obtain ⟨⟨hj, -⟩, hp⟩ := h
  exact ⟨hj, hp⟩

/-- The outputs a slot turns on use different outputs of the limit. -/
theorem outputsOn_driveSlot_le {s : State} {limit : Nat}
    (hrun : ∀ z, 0 < (s.zone z).granted → (s.zone z).start + (s.zone z).granted ≤ 20 * limit)
    (hapart : ∀ y z, y ≠ z → 0 < (s.zone y).granted → 0 < (s.zone z).granted → (s.zone y).apart (s.zone z)) :
    s.driveSlot.outputsOn ≤ limit := by
  let lit := (List.finRange 24).filter fun z => (s.driveSlot.zone z).out
  let used (z : Fin 24) : Nat := outputUsed (s.zone z) s.alloc.slot
  have on {z : Fin 24} (hz : z ∈ lit) : s.alloc.slot < 20 ∧ (s.zone z).placedOn s.alloc.slot = true :=
    driveSlot_out (List.mem_filter.mp hz).2
  have distinct : (lit.map used).Nodup := by
    refine List.Nodup.map_on (fun y hy z hz e => ?_) ((List.nodup_finRange 24).filter _)
    obtain ⟨hj, hy⟩ := on hy
    obtain ⟨-, hz⟩ := on hz
    by_contra hne
    exact outputUsed_ne_of_apart hj hy hz
      (hapart y z hne (granted_pos_of_placedOn hy) (granted_pos_of_placedOn hz)) e
  have within : lit.map used ⊆ List.range limit := fun n hn => by
    obtain ⟨z, hz, rfl⟩ := List.mem_map.mp hn
    obtain ⟨-, hz⟩ := on hz
    exact List.mem_range.mpr (outputUsed_lt hz (hrun z (granted_pos_of_placedOn hz)))
  calc s.driveSlot.outputsOn = (lit.map used).length := (List.length_map _).symm
    _ ≤ (List.range limit).length := (distinct.subperm within).length_le
    _ = limit := List.length_range

theorem driveSlot_supplySound {s : State} (hr : s.phase = .running) (h : s.supplySound) : s.driveSlot.supplySound := by
  obtain ⟨-, h⟩ := h
  refine ⟨fun hn => absurd hr hn, ?_⟩
  have limit : s.driveSlot.alloc.limit = s.alloc.limit := rfl
  rw [limit]
  cases hl : s.alloc.limit with
  | none =>
    simp only [hl] at h ⊢
    intro z
    obtain ⟨hg, -⟩ := h z
    refine ⟨by rw [driveSlot_zone]; exact hg, Bool.eq_false_iff.mpr fun ho => ?_⟩
    have := granted_pos_of_placedOn (driveSlot_out ho).2
    omega
  | some limit =>
    simp only [hl] at h ⊢
    obtain ⟨-, hrun, hapart⟩ := h
    refine ⟨outputsOn_driveSlot_le (fun z => (hrun z).2.2) hapart, fun z => ?_, fun y z => ?_⟩
    · rw [driveSlot_zone]; exact hrun z
    · rw [driveSlot_zone, driveSlot_zone]; exact hapart y z

/-! ## An allocation lays runs that do not overlap (R38) -/

theorem outputsOn_eq_zero {s : State} (h : ∀ z, (s.zone z).out = false) : s.outputsOn = 0 :=
  List.length_eq_zero_iff.mpr (List.filter_eq_nil_iff.mpr fun z _ => by simp [h z])

/-- Whatever the state, an allocation leaves the supply sound, every output being off. -/
theorem allocate_supplySound (s : State) : s.allocate.supplySound := by
  refine ⟨fun _ z => allocate_out s z, ?_⟩
  rw [allocate_alloc]
  refine ⟨by rw [outputsOn_eq_zero (allocate_out s)]; exact Nat.zero_le _, fun z => ?_, fun y z hne _ _ => ?_⟩
  · rw [allocate_start, allocate_granted]
    refine ⟨granted_nonneg s z, grantOf_le s _ z, fun _ => ?_⟩
    have := sumBefore_add_le_sum (granted_nonneg s) (mem_passOrder s.alloc.pointer z)
    have := sum_granted_le s
    omega
  · rw [Zone.apart, allocate_start, allocate_start, allocate_granted, allocate_granted]
    exact sumBefore_apart (granted_nonneg s) hne (mem_passOrder _ y) (mem_passOrder _ z)

/-! ## Letting the supply subside -/

/-- Zone `z` is zone `y` later: its output is on only if it was, and its run is as it was, or it has none. -/
structure Wanes (y z : Zone) : Prop where
  out : z.out = true → y.out = true
  run : z.granted = 0 ∨ z.granted = y.granted ∧ z.start = y.start

/-- The state `t` has the limit of `s`, zones that wane, and no output on if the part has stopped working. -/
structure Subsides (s t : State) : Prop where
  limit : t.alloc.limit = s.alloc.limit
  zones : ∀ z, Wanes (s.zone z) (t.zone z)
  dark : s.phase = .running → t.phase ≠ .running → ∀ z, (t.zone z).out = false

theorem Wanes.refl (z : Zone) : Wanes z z := ⟨id, .inr ⟨rfl, rfl⟩⟩

theorem Wanes.trans {x y z : Zone} (h : Wanes x y) (k : Wanes y z) : Wanes x z := by
  refine ⟨h.out ∘ k.out, ?_⟩
  rcases k.run with hz | ⟨hg, hs⟩
  · exact .inl hz
  · rcases h.run with hy | ⟨hg', hs'⟩
    · exact .inl (hg.trans hy)
    · exact .inr ⟨hg.trans hg', hs.trans hs'⟩

theorem Wanes.granted {y z : Zone} (h : Wanes y z) (hp : 0 < z.granted) :
    z.granted = y.granted ∧ z.start = y.start :=
  h.run.resolve_left fun h0 => by omega

theorem Wanes.off {y z : Zone} (h : Wanes y z) (ho : y.out = false) : z.out = false :=
  Bool.eq_false_iff.mpr fun hz => by rw [h.out hz] at ho; cases ho

/-- A supply that subsides stays sound. -/
theorem Subsides.supplySound {s t : State} (h : Subsides s t) (hs : s.supplySound) : t.supplySound := by
  obtain ⟨hoff, hs⟩ := hs
  constructor
  · intro hr z
    by_cases hrs : s.phase = .running
    · exact h.dark hrs hr z
    · exact (h.zones z).off (hoff hrs z)
  rw [h.limit]
  cases hl : s.alloc.limit with
  | none =>
    simp only [hl] at hs ⊢
    intro z
    obtain ⟨hg, ho⟩ := hs z
    refine ⟨?_, (h.zones z).off ho⟩
    rcases (h.zones z).run with h0 | ⟨he, -⟩
    · exact h0
    · exact he.trans hg
  | some limit =>
    simp only [hl] at hs ⊢
    obtain ⟨hon, hrun, hapart⟩ := hs
    have fewer : t.outputsOn ≤ s.outputsOn :=
      (List.monotone_filter_right (List.finRange 24) fun z => (h.zones z).out).length_le
    refine ⟨fewer.trans hon, fun z => ?_, fun y z hne hy hz => ?_⟩
    · rcases (h.zones z).run with h0 | ⟨hg, hst⟩
      · rw [h0]; exact ⟨by omega, by omega, fun hp => by omega⟩
      · rw [hg, hst]; exact hrun z
    · obtain ⟨gy, sy⟩ := (h.zones y).granted hy
      obtain ⟨gz, sz⟩ := (h.zones z).granted hz
      rw [gy] at hy
      rw [gz] at hz
      rw [Zone.apart, gy, sy, gz, sz]
      exact hapart y z hne hy hz

namespace Subsides

variable {s t u : State}

/-- Zones and allocator as they were, and the part working on if it worked. -/
theorem of_same (hp : t.phase = s.phase) (hz : t.zones = s.zones) (ha : t.alloc = s.alloc) : Subsides s t :=
  ⟨by rw [ha], fun z => by rw [State.zone, State.zone, hz]; exact Wanes.refl _, fun hr hn => absurd (hp.trans hr) hn⟩

/-- Zones and allocator as they were, with every output off; the phase may change. -/
theorem of_dark (hd : ∀ z, (s.zone z).out = false) (hz : t.zones = s.zones) (ha : t.alloc = s.alloc) : Subsides s t :=
  ⟨by rw [ha], fun z => by rw [State.zone, State.zone, hz]; exact Wanes.refl _,
    fun _ _ z => by rw [State.zone, hz]; exact hd z⟩

theorem refl (s : State) : Subsides s s := of_same rfl rfl rfl

theorem trans (h : Subsides s t) (k : Subsides t u) : Subsides s u := by
  refine ⟨k.limit.trans h.limit, fun z => (h.zones z).trans (k.zones z), fun hr hn z => ?_⟩
  by_cases ht : t.phase = .running
  · exact k.dark ht hn z
  · exact (k.zones z).off (h.dark hr ht z)

theorem blind (s : State) : BlindToLink (Subsides s) := fun _ _ _ h => ⟨h.limit, h.zones, h.dark⟩

theorem answer (h : Subsides s t) (st : Status) (data : List Byte) : Subsides s (t.answer st data) :=
  (blind s).answer h st data

theorem raise (h : Subsides s t) (src : Source) (k : EventKind) : Subsides s (t.raise src k) :=
  (blind s).raise h src k

theorem pump (h : Subsides s t) : Subsides s t.pump := (blind s).pump h

theorem modLink (h : Subsides s t) (f : Link → Link) : Subsides s (t.modLink f) := (blind s).link h _

theorem historyTest (h : Subsides s t) : Subsides s t.historyTest := h.trans (of_same (by simp) (by simp) (by simp))

/-- A request refused or only answered. -/
theorem answered (s : State) (st : Status) (data : List Byte) : Subsides s (s.answer st data) :=
  (refl s).answer st data

theorem of_press {p : Fin 4} (h : PressOnly p s t) : Subsides s t :=
  of_same (by rw [h.eq]) (by rw [h.eq]) (by rw [h.eq])

theorem of_record (h : RecordOnly s t) : Subsides s t := of_same (by rw [h.eq]) (by rw [h.eq]) (by rw [h.eq])

theorem foldl {f : State → Fin 4 → State} (hf : ∀ t p, Subsides t (f t p)) (ps : List (Fin 4)) (s : State) :
    Subsides s (ps.foldl f s) := by
  induction ps generalizing s with
  | nil => exact refl s
  | cons p ps ih => exact (hf s p).trans (ih _)

theorem serve {own : State → State} (hown : ∀ u, Subsides u (own u)) (s : State) (kind tag : Byte) (body : List Byte) :
    Subsides s (s.serve kind tag body own) :=
  (blind s).serve (fun u _ h => h.trans (hown u)) (refl s) kind tag body

theorem plantEvent {act : State → State} (hact : ∀ u, Subsides u (act u)) (s : State) :
    Subsides s (plantEvent s act) := (blind s).plantEvent (fun u _ h => h.trans (hact u)) (refl s)

theorem lineEvent {act : State → State} (hact : ∀ u, Subsides u (act u)) (s : State) :
    Subsides s (lineEvent s act) := (blind s).lineEvent (fun u h => h.trans (hact u)) (refl s)

end Subsides

/-! ## The zone operations (R5 to R7, R14, R18 to R21) -/

theorem wanes_enterHeated (z : Zone) (st : ZoneState) (sp : Int) : Wanes z (z.enterHeated st sp) :=
  ⟨id, .inr ⟨rfl, rfl⟩⟩

/-- A zone that leaves heating has its output off and no run. -/
theorem wanes_of_cut {y z : Zone} (ho : z.out = false) (hg : z.granted = 0) : Wanes y z :=
  ⟨fun h => (by rw [ho] at h; cases h), .inl hg⟩

theorem wanes_inModeState (s : State) (z : Fin 24) : Wanes (s.zone z) (s.inModeState z) := by
  unfold State.inModeState
  split
  · exact wanes_enterHeated ..
  · exact wanes_enterHeated ..
  all_goals exact wanes_of_cut rfl rfl

/-- A zone that takes a reading and is tested on it. -/
theorem wanes_afterTest (z : Zone) (x : Option Reading) (found : Option ZoneFault) :
    Wanes z ({ z with latest := x }.afterTest found) := by
  cases found with
  | some c => exact wanes_of_cut rfl rfl
  | none => exact ⟨id, .inr ⟨rfl, rfl⟩⟩

namespace Subsides

variable {s t : State}

theorem of_wanes (hp : t.phase = s.phase) (ha : t.alloc = s.alloc) (hz : ∀ z, Wanes (s.zone z) (t.zone z)) :
    Subsides s t := ⟨by rw [ha], hz, fun hr hn => absurd (hp.trans hr) hn⟩

theorem modZone {z : Fin 24} {f : Zone → Zone} (h : Wanes (s.zone z) (f (s.zone z))) : Subsides s (s.modZone z f) :=
  of_wanes rfl rfl fun y => by
    by_cases hy : y = z
    · subst hy; rw [State.zone_modZone]; exact h
    · rw [State.zone_modZone_other s hy]; exact Wanes.refl _

theorem toModeState (s : State) (z : Fin 24) : Subsides s (s.toModeState z) := modZone (wanes_inModeState s z)

theorem moveZones (s : State) (p : Fin 4) : Subsides s (s.moveZones p) :=
  of_wanes rfl rfl fun z => by
    have moved : (s.moveZones p).zone z =
        if zonePress z = p ∧ (s.zone z).follows then s.inModeState z else s.zone z := Tab.get_build ..
    rw [moved]
    split
    · exact wanes_inModeState s z
    · exact Wanes.refl _

theorem modHeat (s : State) (p : Fin 4) (f : PressHeat → PressHeat) : Subsides s (s.modHeat p f) := of_same rfl rfl rfl

theorem setMode (s : State) (p : Fin 4) (m : HeatMode) (standby : Int) (held : Tab Bool 6) :
    Subsides s (s.setMode p m standby held) := by
  unfold State.setMode
  split
  · exact refl s
  · split
    · exact (modHeat s p _).trans (moveZones _ p)
    · exact ((modHeat s p _).trans (modHeat _ p _)).trans (moveZones _ p)
    · exact (modHeat s p _).trans (moveZones _ p)

theorem takeReading (s : State) (z : Fin 24) (x : Reading) : Subsides s (s.takeReading z x) := by
  unfold State.takeReading State.raiseZoneFault
  dsimp only
  have tested (found : Option ZoneFault) :
      Subsides s (s.modZone z fun q => { q with latest := some (heldReading x) }.afterTest found) :=
    modZone (wanes_afterTest ..)
  split
  · exact (tested _).raise _ _
  · exact tested _

end Subsides

/-! ## The requests -/

theorem ownSetHeatMode_subsides (press mode : Byte) (standby : Half) (held : Byte) (s : State) :
    Subsides s (ownSetHeatMode press mode standby held s) := by
  unfold ownSetHeatMode
  split
  · split
    · exact .answered ..
    · exact (Subsides.setMode ..).answer _ _
  · exact .answered ..
  · exact .answered ..

theorem ownReadZones_subsides (press : Byte) (s : State) : Subsides s (ownReadZones press s) := by
  unfold ownReadZones
  split <;> exact .answered ..

theorem ownClearZone_subsides (zone : Byte) (s : State) : Subsides s (ownClearZone zone s) := by
  unfold ownClearZone
  split
  · exact .answered ..
  · split
    · exact (Subsides.toModeState ..).answer _ _
    · exact .answered ..

theorem ownDisableZone_subsides (zone : Byte) (s : State) : Subsides s (ownDisableZone zone s) := by
  unfold ownDisableZone
  split
  · exact .answered ..
  · exact (Subsides.modZone (wanes_of_cut rfl rfl)).answer _ _

theorem ownEnableZone_subsides (zone : Byte) (s : State) : Subsides s (ownEnableZone zone s) := by
  unfold ownEnableZone
  split
  · exact .answered ..
  · split
    · exact (Subsides.toModeState ..).answer _ _
    · exact .answered ..

theorem ownRestart_subsides (s : State) : Subsides s (ownRestart s) := (Subsides.answered s _ _).modLink _

theorem ownSetClock_subsides (seconds : Word) (s : State) : Subsides s (ownSetClock seconds s) := by
  unfold ownSetClock
  refine Subsides.answer ?_ _ _
  exact .of_same rfl rfl rfl

theorem ownReadEvents_subsides (s : State) : Subsides s (ownReadEvents s) :=
  ((Subsides.refl s).modLink _).answer _ _

theorem ownMaskEvents_subsides (mode : Byte) (kinds : List Byte) (s : State) :
    Subsides s (ownMaskEvents mode kinds s) := by
  unfold ownMaskEvents
  split
  · exact ((Subsides.refl s).modLink _).answer _ _
  all_goals exact .answered ..

theorem ownGetSetting_subsides (ident : Byte) (s : State) : Subsides s (ownGetSetting ident s) := by
  unfold ownGetSetting
  split <;> exact .answered ..

theorem Subsides.writeImage (s : State) (f : Image → Image) : Subsides s (s.writeImage f) := .of_same rfl rfl rfl

theorem Subsides.modRetained (s : State) (f : Retained → Retained) : Subsides s (s.modRetained f) :=
  .of_same rfl rfl rfl

theorem Subsides.writeSetting (s : State) (ident : Nat) (v : Int) : Subsides s (s.writeSetting ident v) := by
  unfold State.writeSetting State.settingActs
  split
  · exact (Subsides.writeImage s _).trans (.modRetained _ _)
  · split
    · exact (Subsides.writeImage s _).historyTest
    · exact .writeImage s _

theorem ownSetSetting_subsides (ident : Byte) (value : Word) (s : State) :
    Subsides s (ownSetSetting ident value s) := by
  unfold ownSetSetting
  split
  · exact .answered ..
  · split
    · exact .answered ..
    · exact (Subsides.writeSetting ..).answer _ _

theorem ownSetTuning_subsides (zone kp ki : Byte) (s : State) : Subsides s (ownSetTuning zone kp ki s) := by
  unfold ownSetTuning
  split
  · exact .answered ..
  · exact (Subsides.writeImage ..).answer _ _

theorem ownWriteRecipe_subsides (slot : Byte) (r : RawRecipe) (s : State) : Subsides s (ownWriteRecipe slot r s) := by
  unfold ownWriteRecipe
  split
  · exact .answered ..
  · repeat' split
    · exact .answered ..
    · exact .answered ..
    · exact .answered ..
    · exact (Subsides.writeImage ..).answer _ _

theorem ownReadRecipe_subsides (slot : Byte) (s : State) : Subsides s (ownReadRecipe slot s) := by
  unfold ownReadRecipe
  split
  · exact .answered ..
  · split <;> exact .answered ..

theorem ownAssignRecipe_subsides (press slot : Byte) (s : State) : Subsides s (ownAssignRecipe press slot s) := by
  unfold ownAssignRecipe
  split
  · repeat' split
    · exact .answered ..
    · exact .answered ..
    · exact (Subsides.writeImage ..).answer _ _
  · exact .answered ..
  · exact .answered ..

theorem Subsides.modStation (s : State) (f : Station → Station) : Subsides s (s.modStation f) := .of_same rfl rfl rfl

theorem ownPostOrder_subsides (orderTag press : Byte) (s : State) : Subsides s (ownPostOrder orderTag press s) := by
  unfold ownPostOrder
  split
  · exact .answered ..
  · split
    · exact .answered ..
    · exact (Subsides.modStation ..).answer _ _

theorem ownCancelOrder_subsides (orderTag : Byte) (s : State) : Subsides s (ownCancelOrder orderTag s) := by
  unfold ownCancelOrder
  split
  · exact (Subsides.modStation ..).answer _ _
  · split
    · exact (Subsides.modStation ..).answer _ _
    · split <;> exact .answered ..

theorem Subsides.zeroCapture (s : State) : Subsides s s.zeroCapture := (Subsides.modStation s _).raise _ _

theorem ownZeroScale_subsides (s : State) : Subsides s (ownZeroScale s) := by
  unfold ownZeroScale
  split
  · exact .answered ..
  · exact (Subsides.zeroCapture s).answer _ _

theorem ownLoad_subsides (press : Byte) (serial : Word) (s : State) : Subsides s (ownLoad press serial s) := by
  unfold ownLoad
  split
  · exact .answered ..
  · split
    · exact .answered ..
    · exact (Subsides.of_press (PressOnly.loadTicket ..)).answer _ _
    · exact .answered ..

theorem ownClose_subsides (press : Byte) (s : State) : Subsides s (ownClose press s) := by
  unfold ownClose
  split
  · exact .answered ..
  · split
    · exact .answered ..
    · exact (Subsides.of_press ((PressOnly.startClosing s).trans (PressOnly.settled _))).answer _ _

theorem ownOpen_subsides (press : Byte) (s : State) : Subsides s (ownOpen press s) := by
  unfold ownOpen
  split
  · exact .answered ..
  · repeat' split
    · exact .answered ..
    · exact .answered ..
    · exact (Subsides.of_press ((PressOnly.startToOpen s).trans (PressOnly.settled _))).answer _ _

/-- ABORT in CLOSING or CURING (R88). -/
theorem Subsides.abortMoving (s : State) (p : Fin 4) : Subsides s (((s.markAborted p).startToOpen p).settled p) :=
  .of_press (((PressOnly.markAborted s).trans (PressOnly.startToOpen _)).trans (PressOnly.settled _))

theorem ownAbort_subsides (press : Byte) (s : State) : Subsides s (ownAbort press s) := by
  unfold ownAbort
  split
  · exact .answered ..
  · split
    · exact (Subsides.of_press (PressOnly.abortLoaded s)).answer _ _
    · exact (Subsides.abortMoving ..).answer _ _
    · exact (Subsides.abortMoving ..).answer _ _
    all_goals exact .answered ..

theorem ownRelease_subsides (press : Byte) (s : State) : Subsides s (ownRelease press s) := by
  unfold ownRelease
  split
  · exact .answered ..
  · split
    · exact (Subsides.of_press (PressOnly.releasePart s)).answer _ _
    · exact .answered ..

theorem ownClearFault_subsides (press : Byte) (s : State) : Subsides s (ownClearFault press s) := by
  unfold ownClearFault
  split
  · exact .answered ..
  · repeat' split
    · exact .answered ..
    · exact (Subsides.of_press (PressOnly.modPress s _)).answer _ _
    · exact .answered ..

theorem ownReadPress_subsides (press : Byte) (s : State) : Subsides s (ownReadPress press s) := by
  unfold ownReadPress
  split <;> exact .answered ..

theorem ownReadHistory_subsides (start : Half) (count : Byte) (s : State) :
    Subsides s (ownReadHistory start count s) := by
  unfold ownReadHistory
  split <;> exact .answered ..

theorem ownCollect_subsides (n : Half) (s : State) : Subsides s (ownCollect n s) := by
  unfold ownCollect
  split
  · exact .answered ..
  · exact (Subsides.writeImage ..).historyTest.answer _ _

theorem ownAnnotate_subsides (serial : Word) (result inspector : Byte) (s : State) :
    Subsides s (ownAnnotate serial result inspector s) := by
  unfold ownAnnotate
  split
  · exact .answered ..
  · split
    · exact .answered ..
    · repeat' split
      · exact .answered ..
      · exact .answered ..
      · exact (Subsides.writeImage ..).answer _ _

theorem ownReadOpen_subsides (serial : Word) (s : State) : Subsides s (ownReadOpen serial s) := by
  unfold ownReadOpen
  split <;> exact .answered ..

theorem ownStore_subsides (s : State) : Subsides s (ownStore s) := by
  unfold ownStore
  split <;> exact (Subsides.modRetained ..).answer _ _

theorem ownSnapshotCounters_subsides (press clear : Byte) (s : State) :
    Subsides s (ownSnapshotCounters press clear s) := by
  unfold ownSnapshotCounters State.snapshot
  dsimp only
  have copied (target : Option (Fin 4)) (cleared : Bool) : Subsides s (s.copyCounters target cleared) :=
    .of_same rfl rfl rfl
  split
  · split
    · exact ((copied ..).trans (.writeImage ..)).answer _ _
    · exact (copied ..).answer _ _
  · exact .answered ..
  · exact .answered ..

theorem ownReadCounters_subsides (press : Byte) (s : State) : Subsides s (ownReadCounters press s) := by
  unfold ownReadCounters
  split <;> exact .answered ..

/-! ## The scale -/

theorem Subsides.takeCheck (s : State) : Subsides s s.takeCheck := by
  unfold State.takeCheck
  split
  · split
    · exact .modStation ..
    · exact .refl s
  · exact .refl s

theorem Subsides.autoZero (s : State) (range : Nat) : Subsides s (s.autoZero range) := by
  unfold State.autoZero
  split
  · exact .zeroCapture s
  · exact .refl s

theorem Subsides.judgeCharge (s : State) (q : Record) (r : Recipe) : Subsides s (s.judgeCharge q r) := by
  unfold State.judgeCharge
  split
  · exact ((Subsides.writeImage s _).trans (.of_press (PressOnly.modPress (p := q.press) _ _))).raise _ _
  · exact (Subsides.writeImage s _).raise _ _

theorem Subsides.zeroObligation (s : State) : Subsides s s.zeroObligation := by
  unfold State.zeroObligation
  split
  · exact (Subsides.modStation s _).raise _ _
  · exact .refl s

theorem Subsides.capture (s : State) : Subsides s s.capture := by
  unfold State.capture
  split
  · exact .refl s
  · exact (((Subsides.judgeCharge s _ _).trans (.modStation _ _)).trans (.zeroObligation _)).historyTest

theorem Subsides.onSample (s : State) : Subsides s s.onSample := by
  unfold State.onSample
  split
  case h_1 => exact .autoZero ..
  case h_2 =>
    split
    · exact (Subsides.autoZero s _).trans (.takeCheck _)
    · exact .takeCheck s
  case h_3 => split; exacts [.modStation .., .refl s]
  case h_4 =>
    split
    · exact .modStation ..
    · split; exacts [.capture s, .refl s]
  case h_5 => split; exacts [.modStation .., .refl s]
  case h_6 => exact .refl s

theorem Subsides.goodSample (s : State) (count : Count) : Subsides s (s.windowed count).onSample :=
  (Subsides.modStation s _).trans (.onSample _)

theorem Subsides.faultSample (s : State) : Subsides s s.faultSample := by
  unfold State.faultSample
  dsimp only
  split
  · exact .modStation ..
  · exact (Subsides.modStation s _).raise _ _

theorem Subsides.settleExpires (s : State) : Subsides s s.settleExpires := by
  unfold State.settleExpires
  split
  · exact (Subsides.modStation s _).raise _ _
  · exact .refl s

/-! ## The presses -/

theorem Subsides.inputEvent (p : Fin 4) (levels : PressInputs) (guardRise : Bool) (s : State) :
    Subsides s (inputEvent p levels guardRise s) := by
  unfold Machine.inputEvent
  dsimp only
  split
  · refine Subsides.trans ?_ (.plantEvent (fun u => .of_press (PressOnly.settled (p := p) u)) _)
    exact .of_same rfl rfl rfl
  · exact .of_same rfl rfl rfl

theorem Subsides.guardFalls (s : State) : Subsides s s.guardFalls := by
  unfold State.guardFalls
  refine Subsides.trans ?_ (.foldl (fun t p => ?_) _ _)
  · exact .of_same rfl rfl rfl
  · exact (Subsides.blind t).oneChange (.of_press (PressOnly.guardAt (p := p) t))

theorem Subsides.periodicExpires (s : State) : Subsides s s.periodicExpires := by
  unfold State.periodicExpires
  dsimp only
  split
  · split
    · exact (Subsides.modRetained s _).trans (.modRetained _ _)
    · exact .modRetained ..
  · exact .refl s

theorem Subsides.later (s : State) : Subsides s s.later := by
  unfold State.later
  split <;> exact .of_same rfl rfl rfl

/-! ## The frame boundary -/

/-- A boundary allocates whatever the state is, and the counting lets the supply subside. -/
theorem boundary_supplySound (s : State) : s.boundary.supplySound :=
  (Subsides.foldl (fun t p => .of_press (PressOnly.cureBoundary (p := p) t)) _ _).supplySound
    (allocate_supplySound s.zoneBoundary)

theorem supplySound_blind : BlindToLink State.supplySound := fun _ _ _ h => h

/-! ## Resets (R25, R42, R138, R153 to R157) -/

/-- No limit is in force, nothing is granted and every output is off (R42). -/
theorem supplySound_of_nothing_granted {s : State} (hl : s.alloc.limit = none)
    (hz : ∀ z, (s.zone z).granted = 0 ∧ (s.zone z).out = false) : s.supplySound := by
  refine ⟨fun _ z => (hz z).2, ?_⟩
  rw [hl]
  exact hz

theorem powerOnValues_zone (s : State) (phase : Phase) (rate : Nat) (z : Fin 24) :
    (s.powerOnValues phase rate).zone z = Zone.reset := Tab.get_fill ..

theorem powerOnValues_supplySound (s : State) (phase : Phase) (rate : Nat) :
    (s.powerOnValues phase rate).supplySound :=
  supplySound_of_nothing_granted rfl fun z => by rw [powerOnValues_zone]; exact ⟨rfl, rfl⟩

theorem countFreeRead_eq (s : State) : s.countFreeRead = { s with freeReads := s.countFreeRead.freeReads } := by
  unfold State.countFreeRead
  split <;> rfl

/-- The recall begins in a part that does not work. -/
theorem Subsides.beginRecall {s : State} (hd : ∀ z, (s.zone z).out = false) : Subsides s s.beginRecall := by
  unfold State.beginRecall
  rw [countFreeRead_eq]
  exact .of_dark hd rfl rfl

theorem powerOn_supplySound (s : State) : s.powerOn.supplySound := by
  have sound := powerOnValues_supplySound s .waiting s.recallRate
  unfold State.powerOn
  dsimp only
  split
  · exact sound
  · exact (Subsides.beginRecall fun z => by rw [powerOnValues_zone]; rfl).supplySound sound

theorem powerOnReset_supplySound {s : State} (h : s.supplySound) (pfail : Bool) :
    (s.powerOnReset pfail).supplySound := by
  have dark (hn : s.phase ≠ .running) : ∀ z, (s.zone z).out = false := h.1 hn
  unfold State.powerOnReset
  dsimp only
  split
  · next hp =>
    split
    · exact powerOn_supplySound _
    · exact Subsides.supplySound (.of_dark (dark (by simp [hp])) rfl rfl) h
  · next hp =>
    split
    · exact powerOn_supplySound _
    · have dark := dark (by simp [hp])
      refine (Subsides.beginRecall ?_).supplySound ?_
      · exact dark
      · exact Subsides.supplySound (.of_dark dark rfl rfl) h
  all_goals exact powerOn_supplySound _

theorem Subsides.recalled (s : State) : Subsides s s.recalled := by
  unfold State.recalled
  split <;> exact .of_same rfl rfl rfl

theorem Subsides.completeReset (s : State) : Subsides s s.completeReset := by
  unfold State.completeReset
  have derived : Subsides s
      ((List.finRange 4).foldl State.derivePress { s with inputs := s.lines, historyRaised := false }) := by
    refine Subsides.trans ?_ (.foldl (fun t p => .of_press (PressOnly.derivePress (p := p) t)) _ _)
    exact .of_same rfl rfl rfl
  exact (derived.historyTest.trans (.modRetained _ _)).modLink _

/-- A part that starts working keeps its zones as they stand. -/
theorem Subsides.toRunning (s : State) : Subsides s { s with phase := .running } :=
  ⟨rfl, fun _ => Wanes.refl _, fun _ hn => absurd rfl hn⟩

theorem Subsides.raiseStarted (s : State) : Subsides s s.raiseStarted := by
  unfold State.raiseStarted
  split
  · exact ((Subsides.refl s).raise _ _).raise _ _
  · exact (Subsides.refl s).raise _ _

theorem Subsides.completeRecall (s : State) : Subsides s s.completeRecall :=
  (((((Subsides.recalled s).trans (.of_record (RecordOnly.closeAll ..))).trans (.modStation _ _)).trans
    (.completeReset _)).trans (.toRunning _)).trans (.raiseStarted _)

theorem Subsides.cutAllShort (s : State) : Subsides s s.cutAllShort :=
  .foldl (fun t p => .of_press (PressOnly.cutShort (p := p) t)) _ _

theorem warmValues_supplySound (s : State) : s.warmValues.supplySound := by
  refine supplySound_of_nothing_granted rfl fun z => ?_
  have warm : s.warmValues.zone z = (s.zone z).warm := Tab.get_mapWith ..
  rw [warm]
  exact ⟨rfl, rfl⟩

theorem beginWarm_supplySound (s : State) : s.beginWarm.supplySound := warmValues_supplySound _

theorem Subsides.completeWarm (s : State) : Subsides s s.completeWarm := (Subsides.completeReset s).trans (.toRunning _)

/-! ## Stores and the power fall (R39, R147 to R152) -/

theorem outputsOff_out (s : State) (z : Fin 24) : (s.outputsOff.zone z).out = false := by
  rw [State.outputsOff, State.zone, Tab.get_mapWith]

theorem Subsides.outputsOff (s : State) : Subsides s s.outputsOff :=
  .of_wanes rfl rfl fun z => by
    have off : s.outputsOff.zone z = { s.zone z with out := false } := Tab.get_mapWith ..
    rw [off]
    exact ⟨fun h => (by cases h), .inr ⟨rfl, rfl⟩⟩

theorem stop_supplySound {s : State} (h : s.supplySound) (hd : ∀ z, (s.zone z).out = false) (fallen : Bool) :
    (s.stop fallen).supplySound := by
  unfold State.stop
  dsimp only
  split
  · exact powerOn_supplySound _
  · exact Subsides.supplySound (.of_dark hd rfl rfl) h

theorem powerFallOn_supplySound {s : State} (h : s.supplySound) (hd : ∀ z, (s.zone z).out = false)
    (final fallen : Bool) : (s.powerFallOn final fallen).supplySound := by
  unfold State.powerFallOn
  split
  · exact Subsides.supplySound (.of_dark hd rfl rfl) h
  · exact stop_supplySound h hd fallen

/-- Power-fall handling turns every output off before anything else. -/
theorem beginPowerFall_supplySound {s : State} (h : s.supplySound) : s.beginPowerFall.supplySound := by
  have cut := Subsides.cutAllShort s.outputsOff
  have dark (z : Fin 24) : (s.outputsOff.cutAllShort.zone z).out = false := (cut.zones z).off (outputsOff_out s z)
  have sound := ((Subsides.outputsOff s).trans cut).supplySound h
  generalize hu : s.outputsOff.cutAllShort = u at dark sound
  unfold State.beginPowerFall
  rw [hu]
  dsimp only
  split
  · exact Subsides.supplySound (.of_dark dark rfl rfl) sound
  · refine powerFallOn_supplySound ?_ ?_ _ _
    · exact Subsides.supplySound (.of_dark dark rfl rfl) sound
    · exact dark

theorem pfailRises_supplySound {s : State} (h : s.supplySound) : s.pfailRises.supplySound := by
  have sound : ({ s with pfail := true } : State).supplySound := h
  unfold State.pfailRises
  dsimp only
  split
  · exact beginPowerFall_supplySound sound
  · exact beginPowerFall_supplySound sound
  · next hp => exact Subsides.supplySound (.of_dark (h.1 (by simp [hp])) rfl rfl) h
  all_goals exact sound

theorem Subsides.finishStore (s : State) (f : InFlight) : Subsides s (s.finishStore f) :=
  (Subsides.modRetained s _).raise _ _

theorem Subsides.storeOnceMore (s : State) : Subsides s s.storeOnceMore := by
  unfold State.storeOnceMore
  split
  · exact (Subsides.modRetained s _).trans (.modRetained _ _)
  · exact .refl s

theorem storeCompletes_supplySound {s : State} (h : s.supplySound) (f : InFlight) :
    (s.storeCompletes f).supplySound := by
  have finished := Subsides.finishStore s f
  have again : Subsides s (s.finishStore f).storeOnceMore := finished.trans (.storeOnceMore _)
  unfold State.storeCompletes
  dsimp only
  split
  · next hp =>
    have dark : ∀ z, (s.zone z).out = false := h.1 (by simp [hp])
    exact powerFallOn_supplySound (finished.supplySound h) (fun z => (finished.zones z).off (dark z)) _ _
  · exact again.pump.supplySound h
  · exact again.pump.supplySound h
  all_goals exact again.supplySound h

/-! ## Every command (R38, R39) -/

/-- A command that answers a state in which the supply has subsided. -/
theorem supplySound_of_subsides {s t u : State} (h : s.supplySound)
    (e : (.next u : Host.Outcome State Fault Refusal) = .next t) (hu : Subsides s u) : t.supplySound := Host.Outcome.next.inj e ▸ hu.supplySound h

/-- A request whose owner lets the supply subside. -/
theorem supplySound_of_request {own : State → State} (hown : ∀ u, Subsides u (own u)) {s t : State} {kind tag : Byte}
    {body : List Byte} (h : s.supplySound)
    (e : (.next (s.serve kind tag body own) : Host.Outcome State Fault Refusal) = .next t) :
    t.supplySound := supplySound_of_subsides h e (.serve hown ..)

/-- An event of the plant that touches one press. -/
theorem supplySound_of_pressEvent {p : Fin 4} {act : State → State} (hact : ∀ u, PressOnly p u (act u)) {s t : State}
    (h : s.supplySound) (e : (.next (plantEvent s act) : Host.Outcome State Fault Refusal) = .next t) : t.supplySound :=
  supplySound_of_subsides h e (.plantEvent (fun u => .of_press (hact u)) s)

theorem Subsides.hear (s : State) (bytes : List Byte) : Subsides s (s.hear bytes) :=
  (Subsides.blind s).hear (.refl s) bytes

theorem Subsides.abandonFrame (s : State) : Subsides s s.abandonFrame := by
  rw [State.abandonFrame_eq]
  exact .of_same rfl rfl rfl

theorem execTransmitComplete_supplySound {s t : State} (h : s.supplySound) (e : execTransmitComplete s = .next t) :
    t.supplySound := by
  obtain rfl := Host.Outcome.next.inj e
  split
  · exact (Subsides.completeWarm _).pump.supplySound (beginWarm_supplySound _)
  · exact ((Subsides.refl s).modLink _).pump.supplySound h

theorem execThermocoupleReading_supplySound {z : Fin 24} {x : Reading} {s t : State} (h : s.supplySound)
    (e : execThermocoupleReading z x s = .next t) : t.supplySound := by
  obtain rfl := Host.Outcome.next.inj e
  split
  · exact (Subsides.takeReading s z x).pump.supplySound h
  · exact h

theorem execHeaterSlot_supplySound {s t : State} (h : s.supplySound) (e : execHeaterSlot s = .next t) :
    t.supplySound := by
  obtain rfl := Host.Outcome.next.inj e
  split
  · next hr => exact driveSlot_supplySound hr h
  · exact h

theorem execHeatFrameBoundary_supplySound {s t : State} (h : s.supplySound) (e : execHeatFrameBoundary s = .next t) :
    t.supplySound := by
  obtain rfl := Host.Outcome.next.inj e
  exact supplySound_blind.plantEvent (fun u _ _ => boundary_supplySound u) h

theorem execGuardOkFall_supplySound {s t : State} (h : s.supplySound) (e : execGuardOkFall s = .next t) :
    t.supplySound := by
  have low : ({ s with lines := { s.lines with guardOk := false } } : State).supplySound := h
  obtain rfl := Host.Outcome.next.inj e
  split
  · exact (Subsides.guardFalls _).pump.supplySound low
  · exact low

theorem execStoreComplete_supplySound {s t : State} (h : s.supplySound) (e : execStoreComplete s = .next t) :
    t.supplySound := by
  obtain rfl := Host.Outcome.next.inj e
  split
  · exact storeCompletes_supplySound h _
  · exact h

theorem execRecallComplete_supplySound {s t : State} (h : s.supplySound) (e : execRecallComplete s = .next t) :
    t.supplySound := by
  obtain rfl := Host.Outcome.next.inj e
  split
  · exact (Subsides.completeRecall s).pump.supplySound h
  · exact h

theorem execResetLineLow_supplySound {s t : State} (h : s.supplySound) (e : execResetLineLow s = .next t) :
    t.supplySound := by
  obtain rfl := Host.Outcome.next.inj e
  split
  · exact beginWarm_supplySound s
  · exact h

theorem execResetLineHigh_supplySound {s t : State} (h : s.supplySound) (e : execResetLineHigh s = .next t) :
    t.supplySound := by
  obtain rfl := Host.Outcome.next.inj e
  split
  · exact (Subsides.completeWarm s).pump.supplySound h
  · exact h

theorem execClockTick_supplySound {s t : State} (h : s.supplySound) (e : execClockTick s = .next t) :
    t.supplySound := by
  obtain rfl := Host.Outcome.next.inj e
  split <;> exact h

/-- Every command keeps the supply sound. -/
theorem exec_supplySound (c : Instr) {s t : State} (h : s.supplySound) (e : exec c s = .next t) : t.supplySound :=
  match c with
  | .identify _ => supplySound_of_request (own := ownIdentify) (fun u => .answered u _ _) h e
  | .cellStatus _ => supplySound_of_request (own := ownCellStatus) (fun u => .answered u _ _) h e
  | .restart _ => supplySound_of_request ownRestart_subsides h e
  | .setClock _ seconds => supplySound_of_request (ownSetClock_subsides seconds) h e
  | .readClock _ => supplySound_of_request (own := ownReadClock) (fun u => .answered u _ _) h e
  | .readEvents _ => supplySound_of_request ownReadEvents_subsides h e
  | .maskEvents _ mode kinds => supplySound_of_request (ownMaskEvents_subsides mode kinds) h e
  | .getSetting _ ident => supplySound_of_request (ownGetSetting_subsides ident) h e
  | .setSetting _ ident value => supplySound_of_request (ownSetSetting_subsides ident value) h e
  | .setTuning _ zone kp ki => supplySound_of_request (ownSetTuning_subsides zone kp ki) h e
  | .writeRecipe _ slot recipe => supplySound_of_request (ownWriteRecipe_subsides slot recipe) h e
  | .readRecipe _ slot => supplySound_of_request (ownReadRecipe_subsides slot) h e
  | .assignRecipe _ press slot => supplySound_of_request (ownAssignRecipe_subsides press slot) h e
  | .setHeatMode _ press mode standby held =>
    supplySound_of_request (ownSetHeatMode_subsides press mode standby held) h e
  | .readZones _ press => supplySound_of_request (ownReadZones_subsides press) h e
  | .clearZone _ zone => supplySound_of_request (ownClearZone_subsides zone) h e
  | .disableZone _ zone => supplySound_of_request (ownDisableZone_subsides zone) h e
  | .enableZone _ zone => supplySound_of_request (ownEnableZone_subsides zone) h e
  | .postOrder _ orderTag press => supplySound_of_request (ownPostOrder_subsides orderTag press) h e
  | .cancelOrder _ orderTag => supplySound_of_request (ownCancelOrder_subsides orderTag) h e
  | .zeroScale _ => supplySound_of_request ownZeroScale_subsides h e
  | .readScale _ => supplySound_of_request (own := ownReadScale) (fun u => .answered u _ _) h e
  | .load _ press serial => supplySound_of_request (ownLoad_subsides press serial) h e
  | .close _ press => supplySound_of_request (ownClose_subsides press) h e
  | .openPress _ press => supplySound_of_request (ownOpen_subsides press) h e
  | .abort _ press => supplySound_of_request (ownAbort_subsides press) h e
  | .release _ press => supplySound_of_request (ownRelease_subsides press) h e
  | .clearFault _ press => supplySound_of_request (ownClearFault_subsides press) h e
  | .readPress _ press => supplySound_of_request (ownReadPress_subsides press) h e
  | .readHistory _ start count => supplySound_of_request (ownReadHistory_subsides start count) h e
  | .collect _ n => supplySound_of_request (ownCollect_subsides n) h e
  | .annotate _ serial result inspector =>
    supplySound_of_request (ownAnnotate_subsides serial result inspector) h e
  | .readOpen _ serial => supplySound_of_request (ownReadOpen_subsides serial) h e
  | .store _ => supplySound_of_request ownStore_subsides h e
  | .snapshotCounters _ press clear => supplySound_of_request (ownSnapshotCounters_subsides press clear) h e
  | .readCounters _ press => supplySound_of_request (ownReadCounters_subsides press) h e
  | .goodFrame _ _ _ => supplySound_of_subsides h e (.lineEvent (fun u => .hear u _) s)
  | .badCrcFrame _ _ _ _ => supplySound_of_subsides h e (.lineEvent (fun u => .hear u _) s)
  | .overLengthFrame _ _ _ _ => supplySound_of_subsides h e (.lineEvent (fun u => .hear u _) s)
  | .interbyteGapTimeout bytes =>
    supplySound_of_subsides h e
      (.lineEvent (fun u => ((Subsides.hear u bytes).trans (.abandonFrame _)).modLink _) s)
  | .framingError bytes =>
    supplySound_of_subsides h e (.lineEvent (fun u => (Subsides.hear u bytes).trans (.abandonFrame _)) s)
  | .transmitComplete => execTransmitComplete_supplySound h e
  | .thermocoupleReading _ _ => execThermocoupleReading_supplySound h e
  | .heatFrameBoundary => execHeatFrameBoundary_supplySound h e
  | .heaterSlot => execHeaterSlot_supplySound h e
  | .goodSample count => supplySound_of_subsides h e (.plantEvent (fun u => .goodSample u count) s)
  | .faultedSample => supplySound_of_subsides h e (.plantEvent .faultSample s)
  | .settleTimeout => supplySound_of_subsides h e (.plantEvent .settleExpires s)
  | .ticketPotLifeExpiry _ serial => supplySound_of_pressEvent (fun u => PressOnly.expireTicket u serial.toNat) h e
  | .boundPotLifeExpiry _ => supplySound_of_pressEvent PressOnly.expireBound h e
  | .curingConditionMet _ _ _ => supplySound_of_subsides h e (.inputEvent ..)
  | .pressureDip _ _ _ _ => supplySound_of_subsides h e (.inputEvent ..)
  | .guardOkFall => execGuardOkFall_supplySound h e
  | .openLimitMet _ _ _ => supplySound_of_subsides h e (.inputEvent ..)
  | .ejectOutMet _ _ _ => supplySound_of_subsides h e (.inputEvent ..)
  | .ejectHomeMet _ _ _ => supplySound_of_subsides h e (.inputEvent ..)
  | .openLimitDrift _ _ _ => supplySound_of_subsides h e (.inputEvent ..)
  | .keyChange _ => supplySound_of_subsides h e (.of_same rfl rfl rfl)
  | .closeTimerExpiry _ => supplySound_of_pressEvent PressOnly.closeExpires h e
  | .openTimerExpiry _ => supplySound_of_pressEvent PressOnly.openExpires h e
  | .strokeTimerExpiry _ => supplySound_of_pressEvent PressOnly.strokeExpires h e
  | .minimumOpenExpiry _ => supplySound_of_pressEvent PressOnly.minOpenElapses h e
  | .storeComplete => execStoreComplete_supplySound h e
  | .periodicStoreExpiry => supplySound_of_subsides h e (.plantEvent .periodicExpires s)
  | .pfailRise => Host.Outcome.next.inj e ▸ pfailRises_supplySound h
  | .powerOnReset pfail => Host.Outcome.next.inj e ▸ powerOnReset_supplySound h pfail
  | .recallComplete => execRecallComplete_supplySound h e
  | .resetLineLow => execResetLineLow_supplySound h e
  | .resetLineHigh => execResetLineHigh_supplySound h e
  | .clockTick => execClockTick_supplySound h e
  | .pressureDipEnd _ _ _ => supplySound_of_subsides h e (.inputEvent ..)
  | .supplyLost => Host.Outcome.next.inj e ▸ powerOnValues_supplySound _ _ _

/-- Settles O54: a step is a command on the rest of the queue, or a millisecond that touches no zone. That the zones are
sound is not needed: an allocation grants between 0 and 20 slots whatever they ask for. -/
theorem everyStepKeepsTheHeaterSupply : Obligations.EveryStepKeepsTheHeaterSupply := by
  unfold Obligations.EveryStepKeepsTheHeaterSupply
  intro s t _ h e
  unfold step at e
  split at e
  · exact supplySound_of_subsides h e (.later s)
  · next c rest _ => exact exec_supplySound c (s := { s with pending := rest }) h e

end Sys2Proof.Machine.HeaterPower

/-!
PROOF. What a command can do to the Weigh Station, the presses and the room for records, said once: a relation between
the state before and the state after, under which each of the three invariants passes on.
-/

namespace Sys2Proof.Machine.ChargeWeighing

/-! ## The room for records (R131, R132) -/

/-- The image `n` holds no more records than `m`, keeps the ring's canonical form and has the same next serial. -/
structure RoomKept (m n : Image) : Prop where
  ring : m.ring.wf = true → n.ring.wf = true
  count : n.recordCount ≤ m.recordCount
  nextSerial : n.nextSerial = m.nextSerial

theorem RoomKept.refl (m : Image) : RoomKept m m := ⟨id, Nat.le_refl _, rfl⟩

theorem RoomKept.of_records {m n : Image} (h : RecordsKept m n) : RoomKept m n := ⟨h.ring, h.count, h.nextSerial⟩

theorem RoomKept.roomSound {m n : Image} (h : RoomKept m n) (hm : m.roomSound) : n.roomSound := by
  obtain ⟨ring, count, serial⟩ := hm
  exact ⟨h.ring ring, Nat.le_trans h.count count, by rw [h.nextSerial]; exact serial⟩

/-- The working image and every image that may yet become it keep to the room. -/
def ImagesSound (s : State) : Prop := s.image.roomSound ∧ ∀ m ∈ s.retained.images, m.roomSound

theorem roomSound_of_noOrder {s : State} (h : ImagesSound s) (hc : s.station.current = none) : s.roomSound :=
  ⟨h.1, h.2, fun hs => by rw [hc] at hs; cases hs⟩

theorem imagesSound_of {s t : State} (hi : RoomKept s.image t.image)
    (hr : ∀ m ∈ t.retained.images, m = s.image ∨ m ∈ s.retained.images) (h : ImagesSound s) : ImagesSound t := by
  refine ⟨hi.roomSound h.1, fun m hm => ?_⟩
  rcases hr m hm with rfl | hm
  · exact h.1
  · exact h.2 m hm

theorem roomSound_of {s t : State} (hi : RoomKept s.image t.image)
    (hr : ∀ m ∈ t.retained.images, m = s.image ∨ m ∈ s.retained.images)
    (hc : t.station.current = s.station.current ∨ t.station.current = none) (h : s.roomSound) : t.roomSound := by
  obtain ⟨image, images, room⟩ := h
  obtain ⟨image', images'⟩ := imagesSound_of hi hr ⟨image, images⟩
  refine ⟨image', images', fun hs => ?_⟩
  rcases hc with hc | hc
  · rw [hc] at hs
    obtain ⟨less, serial⟩ := room hs
    exact ⟨Nat.lt_of_le_of_lt hi.count less, by rw [hi.nextSerial]; exact serial⟩
  · rw [hc] at hs; cases hs

/-! ## The presses (R53, R70, R73, R74) -/

/-- What `State.pressesSound` says, of a part taken to work or not to work. -/
def PressesSound (working : Bool) (s : State) : Prop :=
  (∀ p, (s.press p).sound working) ∧
  (∀ p, (s.press p).state.holdsPart = true → (s.pressHeat p).mode = .run) ∧
  (∀ p, (s.press p).tickets.length ≤ 2) ∧
  ∀ o, s.station.current = some o → (s.pressHeat o.press).mode = .run ∧ (s.press o.press).tickets.length ≤ 1

theorem pressesSound_iff (s : State) : s.pressesSound ↔ PressesSound (decide (s.phase = .running)) s := Iff.rfl

/-- Presses that stay sound, hold no part they did not hold outside RUN and gain no ticket, in unchanged heat modes. -/
theorem pressesSound_of {w w' : Bool} {s t : State} (sound : ∀ p, (s.press p).sound w → (t.press p).sound w')
    (part : ∀ p, (t.press p).state.holdsPart = true →
      (s.press p).state.holdsPart = true ∨ (s.pressHeat p).mode = .run)
    (mode : ∀ p, (t.pressHeat p).mode = (s.pressHeat p).mode)
    (tickets : ∀ p, (t.press p).tickets.length ≤ (s.press p).tickets.length)
    (current : t.station.current = s.station.current ∨ t.station.current = none) (h : PressesSound w s) :
    PressesSound w' t := by
  obtain ⟨sound₀, part₀, tickets₀, current₀⟩ := h
  refine ⟨fun p => sound p (sound₀ p), fun p hp => ?_, fun p => (tickets p).trans (tickets₀ p), fun o ho => ?_⟩
  · rw [mode]
    exact (part p hp).elim (part₀ p) id
  · rcases current with hc | hc
    · rw [hc] at ho
      obtain ⟨run, few⟩ := current₀ o ho
      exact ⟨(mode o.press).trans run, (tickets o.press).trans few⟩
    · rw [hc] at ho; cases ho

/-! ## Keeping the three invariants -/

/-- From `s` to `t` the Weigh Station, the room and the presses stay sound. -/
structure Keeps (s t : State) : Prop where
  station : s.station.sound → t.station.sound
  room : s.roomSound → t.roomSound
  presses : s.pressesSound → t.pressesSound

/-- What the three invariants read of a state. -/
def watched (s : State) : Bool × Station × Tab Press 4 × Tab PressHeat 4 × Image × List Image :=
  (decide (s.phase = .running), s.station, s.presses, s.heat, s.image, s.retained.images)

namespace Keeps

variable {s t u : State}

theorem refl (s : State) : Keeps s s := ⟨id, id, id⟩

theorem trans (h : Keeps s t) (k : Keeps t u) : Keeps s u :=
  ⟨k.station ∘ h.station, k.room ∘ h.room, k.presses ∘ h.presses⟩

/-- The station, the presses and the heat modes as they were, and images that keep to the room. -/
theorem of_frame (working : decide (t.phase = .running) = decide (s.phase = .running)) (station : t.station = s.station)
    (presses : t.presses = s.presses) (mode : ∀ p, (t.pressHeat p).mode = (s.pressHeat p).mode)
    (image : RoomKept s.image t.image) (images : ∀ m ∈ t.retained.images, m = s.image ∨ m ∈ s.retained.images) :
    Keeps s t := by
  refine ⟨fun hs => by rw [station]; exact hs, roomSound_of image images (.inl (by rw [station])), fun hs => ?_⟩
  have press (p : Fin 4) : t.press p = s.press p := by rw [State.press, presses, ← State.press]
  rw [pressesSound_iff, working]
  exact pressesSound_of (fun p hp => by rw [press]; exact hp) (fun p hp => .inl (by rw [← press]; exact hp))
    mode (fun p => by rw [press]) (.inl (by rw [station])) hs

/-- A state that differs in nothing the invariants read. -/
theorem of_watched (h : watched t = watched s) : Keeps s t := by
  simp only [watched, Prod.mk.injEq] at h
  obtain ⟨working, station, presses, heat, image, images⟩ := h
  exact of_frame working station presses (fun p => by rw [State.pressHeat, heat, ← State.pressHeat])
    (by rw [image]; exact .refl _) (fun m hm => .inr (images ▸ hm))

/-- The station changed, its order as it was or gone. -/
theorem modStation {f : Station → Station} (hf : s.station.sound → (f s.station).sound)
    (hc : (f s.station).current = s.station.current ∨ (f s.station).current = none) : Keeps s (s.modStation f) :=
  ⟨hf, roomSound_of (.refl _) (fun _ hm => .inr hm) hc,
    pressesSound_of (fun _ h => h) (fun _ h => .inl h) (fun _ => rfl) (fun _ => Nat.le_refl _) hc⟩

theorem blind (s : State) : BlindToLink (Keeps s) := fun _ _ _ h => ⟨h.station, h.room, h.presses⟩

theorem answer (h : Keeps s t) (st : Status) (data : List Byte) : Keeps s (t.answer st data) :=
  (blind s).answer h st data

theorem raise (h : Keeps s t) (src : Source) (k : EventKind) : Keeps s (t.raise src k) := (blind s).raise h src k

theorem pump (h : Keeps s t) : Keeps s t.pump := (blind s).pump h

theorem modLink (h : Keeps s t) (f : Link → Link) : Keeps s (t.modLink f) := (blind s).link h _

theorem answered (s : State) (st : Status) (data : List Byte) : Keeps s (s.answer st data) := (refl s).answer st data

theorem historyTest (h : Keeps s t) : Keeps s t.historyTest := by
  refine h.trans (of_watched ?_)
  simp only [watched, State.historyTest_phase, State.historyTest_station, State.historyTest_presses,
    State.historyTest_heat, State.historyTest_image, State.historyTest_retained]

/-- A request of a part that works, whose owner keeps the invariants. -/
theorem serve {own : State → State} (hown : ∀ u, u.phase = .running → Keeps u (own u)) (s : State) (kind tag : Byte)
    (body : List Byte) : Keeps s (s.serve kind tag body own) :=
  (blind s).serve (fun u hr h => h.trans (hown u hr)) (refl s) kind tag body

theorem plantEvent {act : State → State} (hact : ∀ u, u.phase = .running → Keeps u (act u)) (s : State) :
    Keeps s (plantEvent s act) := (blind s).plantEvent (fun u hr h => h.trans (hact u hr)) (refl s)

theorem lineEvent {act : State → State} (hact : ∀ u, Keeps u (act u)) (s : State) : Keeps s (lineEvent s act) :=
  (blind s).lineEvent (fun u h => h.trans (hact u)) (refl s)

theorem writeImage {f : Image → Image} (h : RoomKept s.image (f s.image)) : Keeps s (s.writeImage f) :=
  of_frame rfl rfl rfl (fun _ => rfl) h fun _ hm => .inr hm

theorem modRetained {f : Retained → Retained}
    (h : ∀ m ∈ (f s.retained).images, m = s.image ∨ m ∈ s.retained.images) : Keeps s (s.modRetained f) :=
  of_frame rfl rfl rfl (fun _ => rfl) (.refl _) h

/-- Records written or closed. -/
theorem of_records (h : RecordOnly s t) : Keeps s t := by
  have images : t.retained.images = s.retained.images := by rw [h.eq]; rfl
  exact of_frame (by rw [h.eq]) (by rw [h.eq]) (by rw [h.eq]) (fun p => by rw [h.eq]; rfl) (.of_records h.image)
    fun m hm => .inr (images ▸ hm)

end Keeps

end Sys2Proof.Machine.ChargeWeighing

/-!
PROOF. The operations of a Press Sequencer: what each leaves of its press, and that each keeps the press sound (R70,
R73, R74).
-/

namespace Sys2Proof.Machine.ChargeWeighing

/-! ## What an operation leaves of its press -/

section Leaves

variable (s : State) (p : Fin 4)

theorem press_of_records {s t : State} (h : RecordOnly s t) (q : Fin 4) : t.press q = s.press q := by rw [h.eq]; rfl

@[simp] theorem press_writeBound (f : OpenRecord → OpenRecord) (q : Fin 4) : (s.writeBound p f).press q = s.press q :=
  press_of_records (RecordOnly.writeBound ..) q

theorem press_fixVerdict : ∃ c, (s.fixVerdict p).press p = { s.press p with cure := c } :=
  ⟨_, by rw [State.fixVerdict, press_writeBound, State.press_modPress]⟩

theorem press_leaveCuring : ∃ c, (s.leaveCuring p).press p = { s.press p with cure := c } := by
  unfold State.leaveCuring
  split
  · exact press_fixVerdict (s.setOpenMark p) p
  · exact ⟨_, rfl⟩

theorem press_closeBound (d : Disposition) (c : Option PressFault) :
    (s.closeBound p d c).press p = { s.press p with bound := none } := by
  unfold State.closeBound
  split
  · rw [State.press_modPress, press_of_records (RecordOnly.closeRecord ..)]
  · next h => rw [← h]

/-- A press in FAULT has a cause, and neither a part, a stroke, a cycle timer nor a valve on (R96). -/
theorem press_enterFault (cause : PressFault) : ∃ c, (s.enterFault p cause).press p =
    { (s.press p).enter .fault none with
      cause := some cause, bound := none, closeTimer := none, openTimer := none, strokeTimer := none, cure := c } := by
  obtain ⟨c, left⟩ := press_leaveCuring s p
  refine ⟨c, ?_⟩
  unfold State.enterFault
  change (State.closeBound ..).press p = _
  rw [press_closeBound, State.press_modPress, left]
  rfl

theorem press_enterCuring :
    (s.enterCuring p).press p = { (s.press p).enter .curing none with closeTimer := none, dip := false } := by
  unfold State.enterCuring
  rw [press_writeBound]
  exact State.press_modPress s p _

theorem press_beginDip : (s.beginDip p).press p = { s.press p with dip := true } := by
  unfold State.beginDip
  change (State.writeBound ..).press p = _
  rw [press_writeBound, State.press_modPress]

theorem press_startToOpen : ∃ c n, (s.startToOpen p).press p =
    { (s.press p).enter .opening none with openTimer := some n, closeTimer := none, cure := c } := by
  obtain ⟨c, left⟩ := press_leaveCuring s p
  exact ⟨c, _, by rw [State.startToOpen, State.press_modPress, left]; rfl⟩

theorem press_beginStroke (k : Nat) : ∃ n, (s.beginStroke p k).press p =
    { (s.press p).enter .ejecting (some ⟨k, .out⟩) with strokeTimer := some n } :=
  ⟨_, State.press_modPress s p _⟩

theorem press_strokeBack (k : Nat) : ∃ n, (s.strokeBack p k).press p =
    { (s.press p).enter .ejecting (some ⟨k, .back⟩) with strokeTimer := some n } :=
  ⟨_, State.press_modPress s p _⟩

theorem press_enterUnload : (s.enterUnload p).press p = (s.press p).enter .unload none := State.press_modPress s p _

theorem press_countFrame (r : Recipe) : ∃ c, (s.countFrame p r).press p = { s.press p with cure := c } := by
  have raised (u : State) (b : Bool) (k : EventKind) :
      (if b then u.raise (.press p) k else u).press p = u.press p := by split <;> rfl
  unfold State.countFrame
  dsimp only
  rw [press_writeBound, State.press_modPress, raised, raised, raised]
  exact ⟨_, rfl⟩

end Leaves

/-! ## An operation that keeps its press sound -/

/-- From `s` to `t` only press `p` has acted: it stays sound in a part that works or does not, as `working` says, holds
no part that it did not hold outside RUN, and has gained no ticket. -/
structure PressKeeps (working : Bool) (p : Fin 4) (s t : State) : Prop where
  only : PressOnly p s t
  sound : (s.press p).sound working → (t.press p).sound working
  part : (t.press p).state.holdsPart = true → (s.press p).state.holdsPart = true ∨ (s.pressHeat p).mode = .run
  tickets : (t.press p).tickets.length ≤ (s.press p).tickets.length

namespace PressKeeps

variable {w : Bool} {p : Fin 4} {s t u : State}

theorem refl (s : State) : PressKeeps w p s s := ⟨.refl s, id, .inl, Nat.le_refl _⟩

theorem trans (h : PressKeeps w p s t) (k : PressKeeps w p t u) : PressKeeps w p s u := by
  refine ⟨h.only.trans k.only, k.sound ∘ h.sound, fun hu => ?_, k.tickets.trans h.tickets⟩
  rcases k.part hu with ht | ht
  · exact h.part ht
  · obtain ⟨mode, -⟩ := h.only.heat p
    exact .inr (mode ▸ ht)

theorem raise (h : PressKeeps w p s t) (src : Source) (k : EventKind) : PressKeeps w p s (t.raise src k) :=
  ⟨h.only.trans (.raise ..), h.sound, h.part, h.tickets⟩

theorem of_records (h : RecordOnly s t) : PressKeeps w p s t := by
  have press := press_of_records h p
  exact ⟨.of_record h, by rw [press]; exact id, by rw [press]; exact .inl, by rw [press]⟩

/-- Only the Cure Accountant of the press has changed. -/
theorem of_cure (only : PressOnly p s t) (h : ∃ c, t.press p = { s.press p with cure := c }) : PressKeeps w p s t := by
  obtain ⟨c, press⟩ := h
  exact ⟨only, by rw [press]; exact id, by rw [press]; exact .inl, by rw [press]⟩

theorem pressesSound (h : PressKeeps w p s t) (hs : PressesSound w s) : PressesSound w t := by
  have station : t.station = s.station := by rw [h.only.eq]
  refine pressesSound_of (fun q => ?_) (fun q => ?_) (fun q => ?_) (fun q => ?_) (.inl (by rw [station])) hs
  · by_cases hq : q = p
    · subst hq; exact h.sound
    · rw [h.only.others q hq]; exact id
  · by_cases hq : q = p
    · subst hq; exact h.part
    · rw [h.only.others q hq]; exact .inl
  · exact (h.only.heat q).1
  · by_cases hq : q = p
    · subst hq; exact h.tickets
    · rw [h.only.others q hq]

theorem keeps (hr : s.phase = .running) (h : PressKeeps true p s t) : Keeps s t := by
  have station : t.station = s.station := by rw [h.only.eq]
  have phase : t.phase = s.phase := by rw [h.only.eq]
  have images : t.retained.images = s.retained.images := by rw [h.only.eq]; rfl
  refine ⟨fun hs => by rw [station]; exact hs,
    roomSound_of (.of_records h.only.records) (fun m hm => .inr (images ▸ hm)) (.inl (by rw [station])), fun hs => ?_⟩
  rw [pressesSound_iff, phase]
  rw [pressesSound_iff] at hs
  rw [decide_eq_true hr] at hs ⊢
  exact h.pressesSound hs

/-! ### Conditions and their operations (R71, R82, R84, R87, R89, R91, R92, R95, R96) -/

theorem sound_enterFault (s : State) (c : PressFault) : ((s.enterFault p c).press p).sound w := by
  obtain ⟨cure, press⟩ := press_enterFault s p c
  rw [press]
  simp [Press.sound, Press.enter, PressState.holdsPart, valvesFor]

@[simp] theorem tickets_enterFault (s : State) (c : PressFault) :
    ((s.enterFault p c).press p).tickets = (s.press p).tickets := by
  obtain ⟨cure, press⟩ := press_enterFault s p c
  rw [press]
  rfl

theorem enterFault (s : State) (c : PressFault) : PressKeeps w p s (s.enterFault p c) := by
  refine ⟨.enterFault s c, fun _ => sound_enterFault s c, fun h => ?_, by rw [tickets_enterFault]⟩
  obtain ⟨cure, press⟩ := press_enterFault s p c
  rw [press] at h
  cases h

theorem enterCuring (h : (s.press p).state = .closing) : PressKeeps true p s (s.enterCuring p) := by
  have press := press_enterCuring s p
  refine ⟨.enterCuring s, fun hs => ?_, fun _ => .inl (by rw [h]; rfl), by rw [press]; exact Nat.le_refl _⟩
  rw [press]
  simp_all [Press.sound, Press.enter, PressState.holdsPart, valvesFor]

theorem beginDip (s : State) : PressKeeps w p s (s.beginDip p) := by
  have press := press_beginDip s p
  exact ⟨.beginDip s, by rw [press]; exact id, by rw [press]; exact .inl, by rw [press]⟩

theorem startToOpen (h : (s.press p).state = .closing ∨ (s.press p).state = .curing) :
    PressKeeps true p s (s.startToOpen p) := by
  obtain ⟨c, n, press⟩ := press_startToOpen s p
  refine ⟨.startToOpen s, fun hs => ?_, fun _ => .inl ?_, by rw [press]; exact Nat.le_refl _⟩
  · rw [press]
    rcases h with h | h <;> simp_all [Press.sound, Press.enter, PressState.holdsPart, valvesFor]
  · rcases h with h | h <;> rw [h] <;> rfl

/-- A press that holds its part, with no fault cause and no cycle timer running. -/
structure Untimed (x : Press) : Prop where
  cause : x.cause = none
  bound : x.bound.isSome = true
  closeTimer : x.closeTimer = none
  openTimer : x.openTimer = none
  strokeTimer : x.strokeTimer = none

theorem untimed_openLimit {x : Press} (hs : x.sound true) (h : x.state = .opening) (m : Option Nat) :
    Untimed { x with openTimer := none, minOpen := m } := by
  constructor <;> simp_all [Press.sound, PressState.holdsPart]

theorem untimed_strokeEnd {x : Press} (hs : x.sound true) (h : x.state = .ejecting) :
    Untimed { x with strokeTimer := none } := by
  constructor <;> simp_all [Press.sound, PressState.holdsPart]

theorem sound_enterUnload (h : Untimed (s.press p)) : ((s.enterUnload p).press p).sound true := by
  obtain ⟨cause, bound, close, open_, stroke⟩ := h
  rw [press_enterUnload]
  simp [Press.sound, Press.enter, PressState.holdsPart, valvesFor, cause, bound, close, open_, stroke]

theorem sound_beginStroke (h : Untimed (s.press p)) (k : Nat) : ((s.beginStroke p k).press p).sound true := by
  obtain ⟨cause, bound, close, open_, stroke⟩ := h
  obtain ⟨n, press⟩ := press_beginStroke s p k
  rw [press]
  simp [Press.sound, Press.enter, PressState.holdsPart, valvesFor, cause, bound, close, open_]

@[simp] theorem tickets_enterUnload (s : State) : ((s.enterUnload p).press p).tickets = (s.press p).tickets := by
  rw [press_enterUnload]; rfl

@[simp] theorem tickets_beginStroke (s : State) (k : Nat) :
    ((s.beginStroke p k).press p).tickets = (s.press p).tickets := by
  obtain ⟨n, press⟩ := press_beginStroke s p k
  rw [press]; rfl

theorem openLimitReached (h : (s.press p).state = .opening) : PressKeeps true p s (s.openLimitReached p) := by
  have untimed (hs : (s.press p).sound true) (m : Option Nat) :
      Untimed ((s.modPress p fun x => { x with openTimer := none, minOpen := m }).press p) := by
    rw [State.press_modPress]; exact untimed_openLimit hs h m
  refine ⟨.openLimitReached s, fun hs => ?_, fun _ => .inl (by rw [h]; rfl), ?_⟩
  · unfold State.openLimitReached
    dsimp only
    split
    · exact sound_enterUnload (untimed hs _)
    · exact sound_beginStroke (untimed hs _) 1
  · unfold State.openLimitReached
    dsimp only
    split <;> simp

theorem strokeBack (h : (s.press p).state = .ejecting) (k : Nat) : PressKeeps true p s (s.strokeBack p k) := by
  obtain ⟨n, press⟩ := press_strokeBack s p k
  refine ⟨.strokeBack s k, fun hs => ?_, fun _ => .inl (by rw [h]; rfl), by rw [press]; exact Nat.le_refl _⟩
  rw [press]
  simp_all [Press.sound, Press.enter, PressState.holdsPart, valvesFor]

@[simp] theorem press_writeDemould (s : State) (n : Nat) (free : Bool) (q : Fin 4) :
    (s.writeDemould p n free).press q = s.press q := press_writeBound ..

theorem endStroke (h : (s.press p).state = .ejecting) (k : Nat) : PressKeeps true p s (s.endStroke p k) := by
  have untimed (hs : (s.press p).sound true) :
      Untimed ((s.modPress p fun x => { x with strokeTimer := none }).press p) := by
    rw [State.press_modPress]; exact untimed_strokeEnd hs h
  refine ⟨.endStroke s k, fun hs => ?_, fun _ => .inl (by rw [h]; rfl), ?_⟩
  · unfold State.endStroke
    dsimp only
    split
    · exact sound_enterUnload (by rw [press_writeDemould]; exact untimed hs)
    · split
      · exact sound_beginStroke (untimed hs) (k + 1)
      · exact sound_enterFault ..
  · unfold State.endStroke
    dsimp only
    split
    · simp
    · split
      · simp
      · simp [press_of_records (RecordOnly.bumpStuck ..)]

theorem clearDip (s : State) : PressKeeps w p s (s.modPress p fun x => { x with dip := false }) := by
  have press := State.press_modPress s p fun x => { x with dip := false }
  exact ⟨.modPress s _, by rw [press]; exact id, by rw [press]; exact .inl, by rw [press]⟩

/-- Whatever condition the press waits for, meeting it keeps the press sound. -/
theorem pressCondition (h : s.pressCondition p = some t) : PressKeeps true p s t := by
  unfold State.pressCondition at h
  dsimp only at h
  split at h
  case h_1 hst => split at h <;> cases h; exact enterCuring hst
  case h_2 hst =>
    split at h
    · split at h <;> cases h; exact clearDip s
    · split at h <;> cases h; exact beginDip s
  case h_3 hst => split at h <;> cases h; exact openLimitReached hst
  case h_4 hst =>
    split at h
    · split at h <;> cases h; exact strokeBack hst _
    · split at h <;> cases h; exact endStroke hst _
    · cases h
  case h_8 => cases h
  all_goals split at h <;> cases h; exact enterFault s _

theorem settlePress (n : Nat) (s : State) : PressKeeps true p s (State.settlePress n s p) := by
  induction n generalizing s with
  | zero => exact refl s
  | succ n ih =>
    unfold State.settlePress
    split
    · next t h => exact (pressCondition h).trans (ih t)
    · exact refl s

theorem settled (s : State) : PressKeeps true p s (s.settled p) := settlePress 8 s

/-! ### Requests (R77 to R80, R85, R88, R94, R97) -/

/-- A press in IDLE with heat mode RUN takes the ticket at the head of its queue (R78). -/
theorem loadTicket (h : (s.press p).state = .idle) (hm : (s.pressHeat p).mode = .run) (x : Ticket) :
    PressKeeps true p s (s.loadTicket p x) := by
  refine ⟨.loadTicket s x, fun hs => ?_, fun _ => .inr hm, ?_⟩ <;>
    rw [State.loadTicket, State.press_modPress, press_of_records (RecordOnly.writeLoadTime ..)]
  · simp_all [Press.sound, Press.enter, PressState.holdsPart, valvesFor]
  · simp

theorem startClosing (h : (s.press p).state = .loaded) : PressKeeps true p s (s.startClosing p) := by
  refine ⟨.startClosing s, fun hs => ?_, fun _ => .inl (by rw [h]; rfl), ?_⟩ <;>
    rw [State.startClosing, State.press_modPress, press_of_records (RecordOnly.bumpCycles ..)]
  · simp_all [Press.sound, Press.enter, PressState.holdsPart, valvesFor]
  · exact Nat.le_refl _

theorem markAborted (s : State) : PressKeeps w p s (s.markAborted p) := of_records (RecordOnly.writeBound ..)

/-- The record of the bound part is closed and the press is IDLE (R88, R94). -/
theorem closeToIdle (h : (s.press p).state = .loaded ∨ (s.press p).state = .unload) (d : Disposition) :
    PressKeeps true p s ((s.closeBound p d none).modPress p fun x => x.enter .idle none) := by
  refine ⟨(PressOnly.closeBound s _ _).trans (.modPress _ _), fun hs => ?_, fun hp => ?_, ?_⟩
  · rw [State.press_modPress, press_closeBound]
    rcases h with h | h <;> simp_all [Press.sound, Press.enter, PressState.holdsPart, valvesFor]
  · rcases h with h | h <;> exact .inl (by rw [h]; rfl)
  · rw [State.press_modPress, press_closeBound]; exact Nat.le_refl _

theorem clearFault (h : (s.press p).state = .fault) : PressKeeps true p s (s.modPress p Press.clearFault) := by
  refine ⟨.modPress s _, fun hs => ?_, fun hp => ?_, ?_⟩
  · rw [State.press_modPress]
    simp_all [Press.sound, Press.clearFault, Press.enter, PressState.holdsPart, valvesFor]
  · rw [State.press_modPress] at hp; cases hp
  · rw [State.press_modPress]; exact Nat.le_refl _

/-! ### Pot life, the guard and the timers (R72, R75, R76, R81, R83, R90, R93) -/

theorem expireTicket (s : State) (serial : Nat) : PressKeeps w p s (s.expireTicket p serial) := by
  have only := PressOnly.expireTicket (p := p) s serial
  unfold State.expireTicket at only ⊢
  split
  · rw [if_pos ‹_›] at only
    have press (f : Press → Press) : (((s.closeRecord serial .scrapExpired none).modPress p f).raise (.press p)
        .ticketExpired).press p = f (s.press p) := by
      change (State.modPress ..).press p = _
      rw [State.press_modPress, press_of_records (RecordOnly.closeRecord ..)]
    exact ⟨only, by rw [press]; exact id, by rw [press]; exact .inl,
      by rw [press]; exact List.length_filter_le _ _⟩
  · exact refl s

theorem expireBound (s : State) : PressKeeps w p s (s.expireBound p) := by
  have only := PressOnly.expireBound (p := p) s
  unfold State.expireBound at only ⊢
  split
  · rw [if_pos ‹_›] at only
    have press (f : Press → Press) : (((s.writeBound p fun o => { o with expired := true }).modPress p f).raise
        (.press p) .ticketExpired).press p = f (s.press p) := by
      change (State.modPress ..).press p = _
      rw [State.press_modPress, press_writeBound]
    refine ⟨only, fun hs => ?_, by rw [press]; exact .inl, by rw [press]⟩
    rw [press]
    simpa [Press.sound] using hs
  · exact refl s

theorem cutStroke (s : State) : PressKeeps w p s (s.cutStroke p) := by
  unfold State.cutStroke
  split
  · exact of_records (RecordOnly.writeDemould ..)
  · exact refl s

theorem guardAt (s : State) : PressKeeps w p s (s.guardAt p) := by
  unfold State.guardAt
  split
  · exact (cutStroke s).trans (enterFault _ _)
  · exact refl s

theorem closeExpires (s : State) : PressKeeps w p s (s.closeExpires p) := by
  unfold State.closeExpires
  split
  · exact enterFault _ _
  · exact refl s

theorem openExpires (s : State) : PressKeeps w p s (s.openExpires p) := by
  unfold State.openExpires
  split
  · exact enterFault _ _
  · exact refl s

theorem strokeExpires (s : State) : PressKeeps w p s (s.strokeExpires p) := by
  unfold State.strokeExpires
  split
  · exact (cutStroke s).trans (enterFault _ _)
  · exact refl s

theorem minOpenElapses (s : State) : PressKeeps w p s (s.minOpenElapses p) := by
  have press : (s.minOpenElapses p).press p = { s.press p with minOpen := none } := State.press_modPress s p _
  exact ⟨.minOpenElapses s, by rw [press]; exact id, by rw [press]; exact .inl, by rw [press]⟩

/-! ### The cure (R105, R114) -/

theorem cutShort (s : State) : PressKeeps w p s (s.cutShort p) := by
  unfold State.cutShort
  split
  · exact of_cure (.fixVerdict s) (press_fixVerdict s p)
  · exact cutStroke s

theorem cureBoundary (s : State) : PressKeeps true p s (s.cureBoundary p) := by
  unfold State.cureBoundary
  split
  · next hc =>
    split
    · next r _ =>
      have counted : PressKeeps true p s (s.countFrame p r) := of_cure (.countFrame s r) (press_countFrame s p r)
      have curing : ((s.countFrame p r).press p).state = .curing := by
        obtain ⟨c, press⟩ := press_countFrame s p r
        rw [press]; exact hc
      dsimp only
      split
      · exact (counted.trans (startToOpen (.inr curing))).trans (settled _)
      · exact counted
    · exact refl s
  · exact refl s

end PressKeeps

end Sys2Proof.Machine.ChargeWeighing

/-!
PROOF. The Weigh Station: what a sample, a zero, an order and a capture make of it, and that each keeps it sound (R43 to
R64).
-/

namespace Sys2Proof.Machine.ChargeWeighing

/-! ## The filter window (R43 to R45) -/

theorem length_pushLast {α : Type} {n : Nat} (hn : 0 < n) (xs : List α) (x : α) :
    (pushLast n xs x).length = min n (xs.length + 1) := by
  unfold pushLast
  rw [List.length_drop, List.length_append, List.length_singleton]
  omega

theorem getLast?_pushLast {α : Type} {n : Nat} (hn : 0 < n) (xs : List α) (x : α) :
    (pushLast n xs x).getLast? = some x := by
  unfold pushLast
  rw [List.getLast?_drop, if_neg (by rw [List.length_append, List.length_singleton]; omega),
    List.getLast?_append_of_ne_nil _ (by simp)]
  rfl

/-- Once the window is full its average is the youngest of the held averages (R44). -/
theorem getLast?_enter_averages {w : Station} {e : Entry} (h : (w.enter e).window.length = 8) :
    (w.enter e).averages.getLast? = some (windowAverage (w.enter e).window) := by
  have entered : (w.enter e).averages = pushLast 25 w.averages (windowAverage (w.enter e).window) := if_pos h
  rw [entered, getLast?_pushLast (by decide)]

/-- A scale that is stable has its average defined (R44, R45). -/
theorem avg_of_stableNow {w : Station} {band : Nat} (h : w.stableNow band = true) :
    ∃ a, w.avg = some a ∧ w.averages.getLast? = some a ∧ 8 ≤ w.window.length := by
  simp only [Station.stableNow, Bool.and_eq_true] at h
  obtain ⟨⟨defined, -⟩, -⟩ := h
  obtain ⟨a, ha⟩ := Option.isSome_iff_exists.mp defined
  unfold Station.avg at ha
  split at ha
  · cases ha
  · exact ⟨a, by rw [Station.avg, if_neg ‹_›, ha], ha, by omega⟩

theorem averages_of_stableNow {w : Station} {band : Nat} (h : w.stableNow band = true) : w.averages.length = 25 := by
  simp only [Station.stableNow, Bool.and_eq_true, decide_eq_true_eq] at h
  obtain ⟨⟨-, full⟩, -⟩ := h
  exact full

theorem sound_windowed {s : State} (h : s.station.sound) (count : Count) : (s.windowed count).station.sound := by
  obtain ⟨window, averages, queue, current, settle, postponed, clear, charges, drops, full, stable⟩ := h
  unfold State.windowed
  rw [State.modStation_station]
  dsimp only
  generalize entryOf _ _ _ = e
  have window' : (s.station.enter e).window.length = min 8 (s.station.window.length + 1) :=
    length_pushLast (by decide) _ _
  have averages' : (s.station.enter e).averages = s.station.averages ∨
      (s.station.enter e).window.length = 8 ∧
        (s.station.enter e).averages.length = min 25 (s.station.averages.length + 1) := by
    unfold Station.enter
    dsimp only
    split
    · next h => exact .inr ⟨h, length_pushLast (by decide) _ _⟩
    · exact .inl rfl
  refine ⟨?_, ?_, queue, current, settle, postponed, clear, charges, drops, fun hne => ?_, averages_of_stableNow⟩
  · change (s.station.enter e).window.length ≤ 8
    omega
  · change (s.station.enter e).averages.length ≤ 25
    rcases averages' with h | ⟨-, h⟩
    · rw [h]; exact averages
    · omega
  · change (s.station.enter e).window.length = 8
    rcases averages' with h | ⟨h, -⟩
    · have := full (by rw [← h]; exact hne)
      omega
    · exact h

theorem keeps_windowed (s : State) (count : Count) : Keeps s (s.windowed count) :=
  .modStation (fun h => sound_windowed h count) (.inl rfl)

/-! ## Zeros (R47 to R51) -/

/-- No order is being weighed and no charge waits to be removed. -/
def Unloaded (w : Station) : Prop := ¬ (w.state = .waiting ∨ w.state = .settling ∨ w.state = .removal)

/-- A station with no order is sound in a state that has none, its timer stopped. -/
theorem sound_zeroed {w : Station} (h : w.sound) (hu : Unloaded w) : w.zeroed.sound := by
  obtain ⟨-, -, queue, current, settle, -, -, -, drops, -, -⟩ := h
  have noOrder : w.current = none := by
    rw [← Option.not_isSome_iff_eq_none, current]
    exact fun h => hu (h.elim .inl fun h => .inr (.inl h))
  have stopped : w.settle.isSome → False := fun hs => hu (.inr (.inl (settle hs)))
  refine ⟨Nat.zero_le _, Nat.zero_le _, queue, ?_, fun hs => (stopped hs).elim, Nat.zero_le _, fun _ => rfl,
    Nat.zero_le _, drops, fun h => absurd rfl h, fun h => by cases h⟩
  change w.current.isSome ↔ (StationState.empty = .waiting ∨ StationState.empty = .settling)
  simp [noOrder]

theorem keeps_zeroCapture {s : State} (hu : Unloaded s.station) : Keeps s s.zeroCapture :=
  (Keeps.modStation (fun h => sound_zeroed h hu) (.inl rfl)).raise _ _

theorem keeps_autoZero {s : State} (hu : Unloaded s.station) (range : Nat) : Keeps s (s.autoZero range) := by
  unfold State.autoZero
  split
  · exact keeps_zeroCapture hu
  · exact .refl s

/-! ## Orders (R52, R53, R63) -/

theorem sound_append_order {w : Station} (h : w.sound) (hq : w.queue.length < 8) (o : Order) :
    ({ w with queue := w.queue ++ [o] } : Station).sound := by
  obtain ⟨window, averages, -, rest⟩ := h
  refine ⟨window, averages, ?_, rest⟩
  rw [List.length_append, List.length_singleton]
  exact hq

theorem sound_erase_order {w : Station} (h : w.sound) (f : Order → Bool) :
    ({ w with queue := w.queue.eraseP f } : Station).sound := by
  obtain ⟨window, averages, queue, rest⟩ := h
  exact ⟨window, averages, List.length_eraseP_le.trans queue, rest⟩

theorem sound_cancelCurrent {w : Station} (h : w.sound) : w.cancelCurrent.sound := by
  obtain ⟨window, averages, queue, -, -, rest⟩ := h
  refine ⟨window, averages, queue, ?_, fun hs => absurd hs (by simp [Station.cancelCurrent]), rest⟩
  change false = true ↔ _
  unfold Station.cancelCurrent
  dsimp only
  split <;> simp

/-- What the take check does: nothing, or the oldest eligible order is taken from an empty scale with room, a serial and
no overdue zero (R53). -/
theorem takeCheck_cases (s : State) :
    s.takeCheck = s ∨ ∃ o, s.takeCheck = s.modStation (fun w => w.take o s.eligible) ∧ s.station.state = .empty ∧
      s.mayTake = true ∧ s.eligible o = true := by
  unfold State.takeCheck
  split
  · next h =>
    obtain ⟨empty, may⟩ := h
    split
    · next o ho => exact .inr ⟨o, rfl, empty, may, List.find?_some ho⟩
    · exact .inl rfl
  · exact .inl rfl

theorem sound_take {s : State} (h : s.station.sound) (he : s.station.state = .empty) (hm : s.mayTake = true) (o : Order) :
    (s.station.take o s.eligible).sound := by
  obtain ⟨window, averages, queue, -, settle, postponed, clear, rest⟩ := h
  simp only [State.mayTake, Bool.and_eq_true, Bool.or_eq_true, Bool.not_eq_true', decide_eq_true_eq] at hm
  obtain ⟨⟨mayPostpone, -⟩, -⟩ := hm
  refine ⟨window, averages, List.length_eraseP_le.trans queue, ?_, fun hs => ?_, ?_, fun hz => ?_, rest⟩
  · simp [Station.take]
  · have settling := settle hs
    rw [he] at settling; cases settling
  · unfold Station.take
    dsimp only
    split
    · next hz => rw [hz] at mayPostpone; simp at mayPostpone; omega
    · exact postponed
  · have hz : s.station.zeroDue = false := hz
    simpa [Station.take, hz] using clear hz

theorem keeps_takeCheck (s : State) : Keeps s s.takeCheck := by
  rcases takeCheck_cases s with e | ⟨o, e, empty, may, eligible⟩
  · rw [e]; exact .refl s
  rw [e]
  have room : s.image.recordCount < 1024 ∧ s.image.nextSerial.isSome = true := by
    simp only [State.mayTake, Bool.and_eq_true, decide_eq_true_eq] at may
    exact ⟨may.1.2, may.2⟩
  refine ⟨fun h => sound_take h empty may o, fun ⟨image, images, _⟩ => ⟨image, images, fun _ => room⟩,
    fun ⟨sound, part, tickets, _⟩ => ⟨sound, part, tickets, fun q hq => ?_⟩⟩
  obtain rfl : o = q := Option.some.inj hq
  simp only [State.eligible, Bool.and_eq_true, decide_eq_true_eq] at eligible
  exact ⟨eligible.1, by have := eligible.2; change (s.press o.press).tickets.length ≤ 1; omega⟩

/-! ## Capture (R50, R58 to R61, R124, R125) -/

theorem zeroObligation_eq (s : State) :
    s.zeroObligation = { s with station := s.zeroObligation.station, link := s.zeroObligation.link } := by
  unfold State.zeroObligation
  split <;> rfl

theorem zeroObligation_station (s : State) :
    s.zeroObligation.station =
      { s.station with
        zeroDue := s.station.zeroDue || decide (s.image.settings.zeroInterval ≤ s.station.chargesSinceZero) } := by
  unfold State.zeroObligation
  split
  · next h =>
    simp only [Bool.and_eq_true, Bool.not_eq_true'] at h
    obtain ⟨-, reached⟩ := h
    simp [reached]
  · next h =>
    have same : (s.station.zeroDue || decide (s.image.settings.zeroInterval ≤ s.station.chargesSinceZero)) =
        s.station.zeroDue := by
      cases hz : s.station.zeroDue <;> simp_all
    rw [same]

/-- A capture finds its order, the slot and recipe of the order's press, a serial and an average. -/
theorem captureFigures_iff (s : State) (o : Order) (slot : Fin 16) (r : Recipe) (serial : Nat) (w : Int) :
    s.captureFigures = some (o, slot, r, serial, w) ↔
      s.station.current = some o ∧ s.image.assigned.get o.press = some slot ∧
        (s.image.slots.get slot).recipe = some r ∧ s.image.nextSerial = some serial ∧ s.station.avg = some w := by
  simp only [State.captureFigures, Option.bind_eq_bind, Option.bind_eq_some_iff, Option.some.injEq, Prod.mk.injEq]
  constructor
  · rintro ⟨o', ho, slot', hslot, r', hr, serial', hserial, w', hw, rfl, rfl, rfl, rfl, rfl⟩
    exact ⟨ho, hslot, hr, hserial, hw⟩
  · rintro ⟨ho, hslot, hr, hserial, hw⟩
    exact ⟨o, ho, slot, hslot, r, hr, serial, hserial, w, hw, rfl, rfl, rfl, rfl, rfl⟩

/-- Judging a charge changes the image, the press and the Link Port only, in one change. -/
theorem judgeCharge_eq (s : State) (q : Record) (r : Recipe) :
    s.judgeCharge q r =
      { s with
        image := (s.judgeCharge q r).image, presses := (s.judgeCharge q r).presses,
        retained := { s.retained with generation := nextGeneration s.retained.generation },
        link := (s.judgeCharge q r).link } := by
  unfold State.judgeCharge
  split <;> rfl

/-- Once judged, a charge is one record more, and the next serial moves on (R123, R132). -/
theorem judgeCharge_image (s : State) (q : Record) (r : Recipe) :
    (s.judgeCharge q r).image.recordCount = s.image.recordCount + 1 ∧
      (s.judgeCharge q r).image.nextSerial = serialAfter q.serial ∧
      (s.image.ring.wf = true → (s.judgeCharge q r).image.ring.wf = true) := by
  unfold State.judgeCharge
  split
  · refine ⟨?_, rfl, id⟩
    change (s.image.openTable ++ [_]).length + s.image.ring.count = s.image.openTable.length + s.image.ring.count + 1
    rw [List.length_append, List.length_singleton]
    omega
  · exact ⟨rfl, rfl, fun h => Ring.wf_append h _⟩

/-- Judging a charge gives its press a ticket at most, and leaves the other presses alone (R59, R60). -/
theorem judgeCharge_press (s : State) (q : Record) (r : Recipe) (p : Fin 4) :
    (s.judgeCharge q r).press p = s.press p ∨
      p = q.press ∧
        ∃ x, (s.judgeCharge q r).press p = { s.press p with tickets := (s.press p).tickets ++ [x] } := by
  unfold State.judgeCharge
  split
  · by_cases hp : p = q.press
    · subst hp; exact .inr ⟨rfl, _, State.press_modPress _ _ _⟩
    · exact .inl (State.press_modPress_other _ hp _)
  · exact .inl rfl

theorem serialAfter_range {serial n : Nat} (h : serialAfter serial = some n) : 1 ≤ n ∧ n ≤ 4294967295 := by
  unfold serialAfter at h
  split at h <;> cases h
  omega

/-- The state a capture leaves, but for the Link Port and the HISTORY_HIGH mark. -/
theorem capture_eq {s : State} {o : Order} {slot : Fin 16} {r : Recipe} {serial : Nat} {w : Int}
    (hf : s.captureFigures = some (o, slot, r, serial, w)) :
    s.capture =
      { s with
        station :=
          { s.station.afterCapture o.tag with
            zeroDue := s.station.zeroDue ||
              decide (s.image.settings.zeroInterval ≤ satAdd 255 s.station.chargesSinceZero 1) },
        image := (s.judgeCharge (newRecord serial o slot r w s.clock.stamp) r).image,
        presses := (s.judgeCharge (newRecord serial o slot r w s.clock.stamp) r).presses,
        retained := { s.retained with generation := nextGeneration s.retained.generation },
        historyRaised := s.capture.historyRaised, link := s.capture.link } := by
  have unfolded : s.capture =
      (((s.judgeCharge (newRecord serial o slot r w s.clock.stamp) r).modStation fun x =>
        x.afterCapture o.tag).zeroObligation).historyTest := by
    rw [State.capture, hf]
  generalize newRecord serial o slot r w s.clock.stamp = q at unfolded ⊢
  have obliged := zeroObligation_station ((s.judgeCharge q r).modStation fun x => x.afterCapture o.tag)
  have settings : (s.judgeCharge q r).image.settings = s.image.settings := by
    unfold State.judgeCharge; split <;> rfl
  have station : (s.judgeCharge q r).station = s.station := by rw [judgeCharge_eq]
  rw [State.modStation_station, State.modStation_image, settings, station] at obliged
  rw [unfolded, State.historyTest_eq, zeroObligation_eq, obliged, judgeCharge_eq]
  rfl

theorem satAdd_le {top n : Nat} (k : Nat) : satAdd top n k ≤ top := by
  rw [HeaterPower.satAdd_eq]
  exact Nat.min_le_left _ _

theorem sound_afterCapture {w : Station} (h : w.sound) (tag : Byte) (due : Bool)
    (hd : due = false → w.zeroDue = false) : ({ w.afterCapture tag with zeroDue := due } : Station).sound := by
  obtain ⟨window, averages, queue, -, -, postponed, clear, -, rest⟩ := h
  refine ⟨window, averages, queue, ?_, fun hs => absurd hs (by simp [Station.afterCapture]), postponed,
    fun h => clear (hd h), satAdd_le 1, rest⟩
  simp [Station.afterCapture]

/-- Only ticket queues have changed, none is longer than two, and no order is current any more. -/
theorem pressesSound_of_tickets {s t : State} (phase : t.phase = s.phase) (heat : t.heat = s.heat)
    (current : t.station.current = none)
    (press : ∀ p, ∃ l, t.press p = { s.press p with tickets := l } ∧ l.length ≤ 2) (h : s.pressesSound) :
    t.pressesSound := by
  obtain ⟨sound, part, -, -⟩ := h
  refine ⟨fun p => ?_, fun p => ?_, fun p => ?_, fun o ho => by rw [current] at ho; cases ho⟩ <;>
    obtain ⟨l, ticketed, few⟩ := press p
  · rw [phase, ticketed]; exact sound p
  · rw [State.pressHeat, heat, ticketed]; exact part p
  · rw [ticketed]; exact few

/-- A capture has the one place in the room that its order was given, and its press the place for one ticket (R53). -/
theorem keeps_capture (s : State) : Keeps s s.capture := by
  cases hf : s.captureFigures with
  | none =>
    have unchanged : s.capture = s := by rw [State.capture, hf]
    rw [unchanged]; exact .refl s
  | some figures =>
    obtain ⟨o, slot, r, serial, w⟩ := figures
    obtain ⟨current, -⟩ := (captureFigures_iff ..).mp hf
    obtain ⟨count, serial', ring⟩ := judgeCharge_image s (newRecord serial o slot r w s.clock.stamp) r
    have press := judgeCharge_press s (newRecord serial o slot r w s.clock.stamp) r
    rw [capture_eq hf]
    refine ⟨fun h => sound_afterCapture h _ _ fun hd => ?_, fun h => ?_, fun h => ?_⟩
    · rw [Bool.or_eq_false_iff] at hd
      exact hd.1
    · obtain ⟨⟨wf, -, -⟩, images, room⟩ := h
      obtain ⟨less, -⟩ := room (by rw [current]; rfl)
      have range (n : Nat) (hn : _ = some n) := serialAfter_range (serial'.symm.trans hn)
      exact roomSound_of_noOrder ⟨⟨ring wf, by rw [count]; exact less, range⟩, images⟩ rfl
    · obtain ⟨-, -, tickets, order⟩ := id h
      obtain ⟨-, few⟩ := order o current
      refine pressesSound_of_tickets (s := s) rfl rfl rfl (fun p => ?_) h
      rcases press p with same | ⟨rfl, x, added⟩
      · exact ⟨_, same, tickets p⟩
      · exact ⟨_, added, by rw [List.length_append]; exact Nat.succ_le_succ few⟩

/-! ## Samples by state (R46, R48, R51, R53, R55 to R57, R62, R64, R65) -/

theorem sound_settling {w : Station} (h : w.sound) (hw : w.state = .waiting) (n : Nat) :
    ({ w with state := .settling, settle := some n } : Station).sound := by
  obtain ⟨window, averages, queue, current, -, rest⟩ := h
  refine ⟨window, averages, queue, ?_, fun _ => rfl, rest⟩
  rw [hw] at current
  simpa using current

theorem sound_waiting {w : Station} (h : w.sound) (hw : w.state = .settling) :
    ({ w with state := .waiting, settle := none } : Station).sound := by
  obtain ⟨window, averages, queue, current, -, rest⟩ := h
  refine ⟨window, averages, queue, ?_, fun hs => absurd hs (by simp), rest⟩
  rw [hw] at current
  simpa using current

theorem sound_removed {w : Station} (h : w.sound) (hw : w.state = .removal) :
    ({ w with state := .empty } : Station).sound := by
  obtain ⟨window, averages, queue, current, settle, rest⟩ := h
  refine ⟨window, averages, queue, ?_, fun hs => ?_, rest⟩
  · rw [hw] at current
    simpa using current
  · have settling := settle hs
    rw [hw] at settling; cases settling

theorem keeps_onSample (s : State) : Keeps s s.onSample := by
  unfold State.onSample
  split
  case h_1 hw => exact keeps_autoZero (by simp [Unloaded, hw]) _
  case h_2 hw =>
    refine Keeps.trans ?_ (keeps_takeCheck _)
    split
    · exact keeps_autoZero (by simp [Unloaded, hw]) _
    · exact .refl s
  case h_3 hw =>
    split
    · exact .modStation (fun h => sound_settling h hw _) (.inl rfl)
    · exact .refl s
  case h_4 hw =>
    split
    · exact .modStation (fun h => sound_waiting h hw) (.inl rfl)
    · split
      · exact keeps_capture s
      · exact .refl s
  case h_5 hw =>
    split
    · exact .modStation (fun h => sound_removed h hw) (.inl rfl)
    · exact .refl s
  case h_6 => exact .refl s

/-- The queue once the current order has gone back to its head: the youngest order makes room in a full one (R64). -/
def returnedQueue (w : Station) : List Order :=
  match w.current with
  | none => w.queue
  | some o => if w.queue.length < 8 then o :: w.queue else o :: w.queue.take 7

theorem length_returnedQueue {w : Station} (h : w.queue.length ≤ 8) : (returnedQueue w).length ≤ 8 := by
  unfold returnedQueue
  split
  · exact h
  · split
    · rw [List.length_cons]; omega
    · rw [List.length_cons, List.length_take]; omega

/-- What returning the current order leaves of the station (R64). -/
theorem returnOrder_eq (w : Station) :
    w.returnOrder =
      { w with
        current := none, queue := returnedQueue w,
        orderDrops :=
          if w.current ≠ none ∧ 8 ≤ w.queue.length then satAdd 65535 w.orderDrops 1 else w.orderDrops } := by
  unfold Station.returnOrder returnedQueue
  cases hc : w.current with
  | none => simp [← hc]
  | some o =>
    by_cases hq : w.queue.length < 8
    · simp [hq]
    · have full : 8 ≤ w.queue.length := by omega
      simp [hq, full]

theorem sound_faulted {w : Station} (h : w.sound) : w.faulted.sound := by
  obtain ⟨-, -, queue, -, -, postponed, clear, charges, drops, -, -⟩ := h
  unfold Station.faulted
  rw [returnOrder_eq]
  refine ⟨Nat.zero_le _, Nat.zero_le _, length_returnedQueue queue, by simp [Station.emptyWindow],
    fun hs => absurd hs (by simp), postponed, clear, charges, ?_, fun hn => absurd rfl hn, fun hs => by cases hs⟩
  change (if _ then satAdd 65535 w.orderDrops 1 else w.orderDrops) ≤ 65535
  split
  · exact satAdd_le 1
  · exact drops

theorem keeps_faultSample (s : State) : Keeps s s.faultSample := by
  have stopped : Keeps s (s.modStation Station.faulted) :=
    .modStation sound_faulted (.inr (by rw [Station.faulted, returnOrder_eq]; rfl))
  unfold State.faultSample
  dsimp only
  split
  · exact stopped
  · exact stopped.raise _ _

theorem sound_settled {w : Station} (h : w.sound) : ({ w with settle := none } : Station).sound := by
  obtain ⟨window, averages, queue, current, -, rest⟩ := h
  exact ⟨window, averages, queue, current, fun hs => absurd hs (by simp), rest⟩

theorem keeps_settleExpires (s : State) : Keeps s s.settleExpires := by
  unfold State.settleExpires
  split
  · exact (Keeps.modStation sound_settled (.inl rfl)).raise _ _
  · exact .refl s

/-! ## The requests to the station (R49, R52, R63) -/

theorem keeps_ownPostOrder (orderTag press : Byte) (s : State) : Keeps s (ownPostOrder orderTag press s) := by
  unfold ownPostOrder
  split
  · exact .answered ..
  · split
    · exact .answered ..
    · exact (Keeps.modStation (fun h => sound_append_order h (by omega) _) (.inl rfl)).answer _ _

theorem keeps_ownCancelOrder (orderTag : Byte) (s : State) : Keeps s (ownCancelOrder orderTag s) := by
  unfold ownCancelOrder
  split
  · exact (Keeps.modStation (fun h => sound_erase_order h _) (.inl rfl)).answer _ _
  · split
    · exact (Keeps.modStation sound_cancelCurrent (.inr rfl)).answer _ _
    · split <;> exact .answered ..

theorem unloaded_of_check {s : State} (h : s.checkZeroScale = none) : Unloaded s.station := by
  unfold State.checkZeroScale at h
  split at h
  · cases h
  · assumption

theorem keeps_ownZeroScale (s : State) : Keeps s (ownZeroScale s) := by
  unfold ownZeroScale
  split
  · exact .answered ..
  · next h => exact (keeps_zeroCapture (unloaded_of_check h)).answer _ _

end Sys2Proof.Machine.ChargeWeighing

/-!
PROOF. The other commands keep the Weigh Station, the presses and the room: heat, the press cycle, the settings, the
records, stores and resets.
-/

namespace Sys2Proof.Machine.ChargeWeighing

/-! ## Heat modes and zones (R5 to R8, R19 to R21) -/

/-- Setting a mode gives the press that mode and changes no other press's (R7, R8). -/
theorem setMode_mode (s : State) (p : Fin 4) (m : HeatMode) (standby : Int) (held : Tab Bool 6) (q : Fin 4) :
    ((s.setMode p m standby held).pressHeat q).mode = if q = p then m else (s.pressHeat q).mode := by
  unfold State.setMode
  split
  · next h =>
    obtain ⟨already, -⟩ := h
    split
    · next hq => rw [hq]; exact already
    · rfl
  · by_cases hq : q = p
    · subst hq
      cases m <;> simp [State.moveZones, State.restartProfile, State.pressHeat, State.modHeat]
    · cases m <;> simp [State.moveZones, State.restartProfile, State.pressHeat, State.modHeat, hq]

/-- Setting a mode changes heat figures and zones only. -/
theorem setMode_eq (s : State) (p : Fin 4) (m : HeatMode) (standby : Int) (held : Tab Bool 6) :
    s.setMode p m standby held =
      { s with heat := (s.setMode p m standby held).heat, zones := (s.setMode p m standby held).zones } := by
  unfold State.setMode
  split
  · rfl
  · cases m <;> rfl

/-- A press that SET_HEAT_MODE may take out of RUN, or that is not in RUN, holds no part and is not the press of the
current order (R6, R53, R70). -/
theorem free_of_check {s : State} (hs : s.pressesSound) {p : Fin 4} {m : HeatMode} {standby : Half} {held : Byte}
    (h : s.checkHeatMode p m standby held = none) (hm : m ≠ .run) :
    (s.press p).state.holdsPart = false ∧ ∀ o, s.station.current = some o → o.press ≠ p := by
  obtain ⟨-, part, -, order⟩ := hs
  by_cases run : (s.pressHeat p).mode = .run
  · have may : s.mayLeaveRun p = true := by
      unfold State.checkHeatMode at h
      split at h
      · cases h
      · split at h
        · cases h
        · simp_all
    simp only [State.mayLeaveRun, Bool.and_eq_true, decide_eq_true_eq, Bool.not_eq_true'] at may
    obtain ⟨⟨idle, -⟩, other⟩ := may
    refine ⟨by rw [idle]; rfl, fun o ho => ?_⟩
    rw [State.isCurrentPress, ho] at other
    exact of_decide_eq_false other
  · refine ⟨Bool.eq_false_iff.mpr fun holds => run (part p holds), fun o ho he => run ?_⟩
    obtain ⟨mode, -⟩ := order o ho
    rw [← he]; exact mode

theorem keeps_setMode {s : State} {p : Fin 4} {m : HeatMode} {standby : Half} {held : Byte}
    (h : s.checkHeatMode p m standby held = none) (sp : Int) (set : Tab Bool 6) : Keeps s (s.setMode p m sp set) := by
  have eq := setMode_eq s p m sp set
  have mode := setMode_mode s p m sp set
  generalize s.setMode p m sp set = t at eq mode
  have press (q : Fin 4) : t.press q = s.press q := by rw [eq]; rfl
  have station : t.station = s.station := by rw [eq]
  have phase : t.phase = s.phase := by rw [eq]
  have image : t.image = s.image := by rw [eq]
  have images : t.retained = s.retained := by rw [eq]
  refine ⟨fun hs => by rw [station]; exact hs,
    roomSound_of (by rw [image]; exact .refl _) (fun _ hm => .inr (images ▸ hm)) (.inl (by rw [station])), fun hs => ?_⟩
  obtain ⟨sound, part, tickets, order⟩ := id hs
  refine ⟨fun q => ?_, fun q hq => ?_, fun q => ?_, fun o ho => ?_⟩
  · rw [press, phase]; exact sound q
  · rw [press] at hq
    rw [mode]
    split
    · next e =>
      subst e
      by_contra hm
      obtain ⟨free, -⟩ := free_of_check hs h hm
      rw [free] at hq; cases hq
    · exact part q hq
  · rw [press]; exact tickets q
  · rw [station] at ho
    obtain ⟨run, few⟩ := order o ho
    rw [mode, press]
    refine ⟨?_, few⟩
    split
    · next e =>
      by_contra hm
      obtain ⟨-, other⟩ := free_of_check hs h hm
      exact other o ho e
    · exact run

theorem keeps_modZone (s : State) (z : Fin 24) (f : Zone → Zone) : Keeps s (s.modZone z f) := .of_watched rfl

theorem keeps_takeReading (s : State) (z : Fin 24) (x : Reading) : Keeps s (s.takeReading z x) := by
  unfold State.takeReading State.raiseZoneFault
  dsimp only
  split
  · exact (keeps_modZone ..).raise _ _
  · exact keeps_modZone ..

/-! ## The frame boundary (R4, R28, R105) -/

theorem Keeps.foldl {α : Type} {f : State → α → State} (hf : ∀ t a, Keeps t (f t a)) (l : List α) (s : State) :
    Keeps s (l.foldl f s) := by
  induction l generalizing s with
  | nil => exact .refl s
  | cons a l ih => exact (hf s a).trans (ih _)

/-- The same for acts of the presses of a part that works. -/
theorem Keeps.foldl_running {f : State → Fin 4 → State}
    (hf : ∀ t p, t.phase = .running → Keeps t (f t p) ∧ (f t p).phase = .running) (l : List (Fin 4)) {s : State}
    (hr : s.phase = .running) : Keeps s (l.foldl f s) := by
  induction l generalizing s with
  | nil => exact .refl s
  | cons p l ih =>
    obtain ⟨keeps, running⟩ := hf s p hr
    exact keeps.trans (ih running)

theorem advancedHeat_mode (s : State) (p : Fin 4) (h : PressHeat) : (s.advancedHeat p h).mode = h.mode := by
  unfold State.advancedHeat
  split <;> rfl

theorem keeps_boundaryReadings (s : State) : Keeps s s.boundaryReadings := by
  refine .of_frame rfl rfl rfl (fun p => ?_) (.refl _) fun _ hm => .inr hm
  change ((s.heat.mapWith fun p h => s.advancedHeat p h).get p).mode = _
  rw [Tab.get_mapWith, advancedHeat_mode]
  rfl

theorem keeps_boundaryFaults (s : State) : Keeps s s.boundaryFaults := by
  unfold State.boundaryFaults
  refine Keeps.trans ?_ (.foldl (fun t i => ?_) _ _)
  · exact .of_watched rfl
  · unfold State.raiseZoneFault
    split
    · exact (Keeps.refl t).raise _ _
    · exact .refl t

theorem keeps_readiness (s : State) (p : Fin 4) : Keeps s (s.readiness p) := by
  have ready (b : Bool) : Keeps s (s.modHeat p fun h => { h with ready := b }) := by
    refine .of_frame rfl rfl rfl (fun q => ?_) (.refl _) fun _ hm => .inr hm
    by_cases hq : q = p
    · subst hq; rw [State.pressHeat_modHeat]
    · rw [State.pressHeat_modHeat_other s hq]
  unfold State.readiness
  dsimp only
  split
  · exact (ready _).raise _ _
  · exact ready _

theorem keeps_chargeShortfall (zones : Tab Zone 24) (s : State) (p : Fin 4) :
    Keeps s (s.chargeShortfall zones p) := by
  unfold State.chargeShortfall
  dsimp only
  split
  · exact .refl s
  · split
    · exact ((Keeps.refl s).raise _ _).trans (.of_records (RecordOnly.writeBound ..))
    · exact (Keeps.refl s).raise _ _

theorem keeps_allocate (s : State) : Keeps s s.allocate := by
  unfold State.allocate
  dsimp only
  refine Keeps.trans (.of_watched ?_) (.foldl (keeps_chargeShortfall _) _ _)
  unfold watched
  rfl

theorem keeps_zoneBoundary (s : State) : Keeps s s.zoneBoundary := by
  have setpoints (t : State) : Keeps t t.boundarySetpoints := .of_watched rfl
  have demands (t : State) : Keeps t t.boundaryDemands := .of_watched rfl
  exact ((((keeps_boundaryReadings s).trans (setpoints _)).trans (keeps_boundaryFaults _)).trans (demands _)).trans
    (.foldl keeps_readiness _ _)

theorem foldl_phase {α : Type} {f : State → α → State} (hf : ∀ t a, (f t a).phase = t.phase) (l : List α)
    (s : State) : (l.foldl f s).phase = s.phase := by
  induction l generalizing s with
  | nil => rfl
  | cons a l ih => exact (ih _).trans (hf s a)

theorem allocate_phase (s : State) : s.allocate.phase = s.phase := by
  refine foldl_phase (fun t p => ?_) _ _
  unfold State.chargeShortfall
  dsimp only
  split
  · rfl
  · split
    · rw [(RecordOnly.writeBound ..).eq]; rfl
    · rfl

theorem zoneBoundary_phase (s : State) : s.zoneBoundary.phase = s.phase := by
  have ready (t : State) : t.boundaryReadiness.phase = t.phase :=
    foldl_phase (fun u p => by unfold State.readiness; dsimp only; split <;> rfl) _ _
  have faults (t : State) : t.boundaryFaults.phase = t.phase :=
    foldl_phase (fun u i => by unfold State.raiseZoneFault; split <;> rfl) _ _
  exact (ready _).trans (faults _)

theorem keeps_boundary {s : State} (hr : s.phase = .running) : Keeps s s.boundary := by
  refine ((keeps_zoneBoundary s).trans (keeps_allocate _)).trans
    (.foldl_running (fun t p ht => ?_) _ (by rw [allocate_phase, zoneBoundary_phase]; exact hr))
  have acted := PressKeeps.cureBoundary (p := p) t
  exact ⟨acted.keeps ht, by rw [acted.only.eq]; exact ht⟩

/-! ## Settings, recipes, records (R136, R161 to R174, R180) -/

theorem keeps_startPeriodic (s : State) : Keeps s s.startPeriodic := .modRetained fun _ hm => .inr hm

theorem keeps_writeSetting (s : State) (ident : Nat) (v : Int) : Keeps s (s.writeSetting ident v) := by
  have written : Keeps s (s.writeImage fun m => { m with settings := m.settings.put ident (settingStored ident v) }) :=
    .writeImage ⟨id, Nat.le_refl _, rfl⟩
  unfold State.writeSetting State.settingActs
  split
  · exact written.trans (keeps_startPeriodic _)
  · split
    · exact written.historyTest
    · exact written

theorem roomKept_collect (m : Image) (n : Nat) : RoomKept m { m with ring := m.ring.collect n } := by
  refine ⟨fun h => Ring.wf_collect h n, ?_, rfl⟩
  exact Nat.add_le_add_left (Nat.sub_le _ _) _

theorem roomKept_modRecord (m : Image) (k : Nat) (f : Record → Record) :
    RoomKept m { m with ring := m.ring.modRecord k f } := by
  refine ⟨fun h => Ring.wf_modRecord h k f, ?_, rfl⟩
  rw [Image.recordCount, Image.recordCount, Ring.count_modRecord]

theorem keeps_snapshot (s : State) (target : Option (Fin 4)) (cleared : Bool) : Keeps s (s.snapshot target cleared) := by
  have copied : Keeps s (s.copyCounters target cleared) := .of_watched rfl
  unfold State.snapshot
  dsimp only
  split
  · exact copied.trans (.writeImage ⟨id, Nat.le_refl _, rfl⟩)
  · exact copied

/-! ## Retained memory: the images it holds (R145 to R152) -/

theorem mem_images {r : Retained} {m : Image} :
    m ∈ r.images ↔ (∃ g, r.copy = .good m g) ∨ ∃ f, r.store = some f ∧ f.image = m := by
  unfold Retained.images
  rw [List.mem_append]
  refine or_congr ?_ ?_
  · cases r.copy with
    | good n g => simp [eq_comm]
    | bad => simp
  · cases r.store with
    | some f => simp [eq_comm]
    | none => simp

theorem keeps_startStore (s : State) : Keeps s s.startStore := by
  refine .modRetained fun m hm => ?_
  rcases mem_images.mp hm with copy | ⟨f, hf, rfl⟩
  · exact .inr (mem_images.mpr (.inl copy))
  · cases hf; exact .inl rfl

theorem keeps_finishStore {s : State} {f : InFlight} (h : s.retained.store = some f) : Keeps s (s.finishStore f) := by
  refine (Keeps.modRetained fun m hm => .inr (mem_images.mpr (.inr ⟨f, h, ?_⟩))).raise _ _
  rcases mem_images.mp hm with ⟨g, hg⟩ | ⟨g, hg, -⟩
  · cases hg; rfl
  · cases hg

theorem keeps_storeOnceMore (s : State) : Keeps s s.storeOnceMore := by
  unfold State.storeOnceMore
  split
  · exact (Keeps.modRetained fun _ hm => .inr hm).trans (keeps_startStore _)
  · exact .refl s

theorem keeps_periodicExpires (s : State) : Keeps s s.periodicExpires := by
  unfold State.periodicExpires
  dsimp only
  split
  · split
    · exact (keeps_startPeriodic s).trans (keeps_startStore _)
    · exact keeps_startPeriodic s
  · exact .refl s

theorem withoutSupply_images (r : Retained) (m : Image) (h : m ∈ r.withoutSupply.images) : m ∈ r.images := by
  rcases mem_images.mp h with ⟨g, hg⟩ | hf
  · refine mem_images.mpr (.inl ⟨g, ?_⟩)
    unfold Retained.withoutSupply at hg
    dsimp only at hg
    split at hg
    · cases hg
    · exact hg
  · exact mem_images.mpr (.inr hf)

theorem keeps_withoutSupply (s : State) : Keeps s { s with retained := s.retained.withoutSupply } :=
  .of_frame rfl rfl rfl (fun _ => rfl) (.refl _) fun m hm => .inr (withoutSupply_images _ m hm)

/-! ## Power-on and the start of a warm reset (R69, R99, R138, R153 to R157) -/

theorem sound_station_reset (zero : Int) : (Station.reset zero).sound := by
  simp [Station.sound, Station.reset]

theorem roomSound_default : Image.default.roomSound :=
  ⟨by decide, by decide, fun n hn => by cases hn; decide⟩

/-- A press as a reset leaves it: IDLE, or in FAULT, with nothing held and nothing running (R99). -/
def Derived (x : Press) : Prop := x = Press.reset ∨ x = { Press.reset with state := .fault, cause := some .reset }

theorem Derived.sound {x : Press} (h : Derived x) (w : Bool) : x.sound w := by
  rcases h with rfl | rfl <;> cases w <;> simp [Press.sound, Press.reset, PressState.holdsPart, valvesFor]

theorem Derived.free {x : Press} (h : Derived x) : x.state.holdsPart = false ∧ x.tickets = [] := by
  rcases h with rfl | rfl <;> exact ⟨rfl, rfl⟩

/-- Presses as a reset leaves them are sound, whatever the heat modes but that of the current order's press. -/
theorem pressesSound_of_derived {s : State} (h : ∀ p, Derived (s.press p))
    (hc : ∀ o, s.station.current = some o → (s.pressHeat o.press).mode = .run) : s.pressesSound := by
  refine ⟨fun p => (h p).sound _, fun p hp => ?_, fun p => ?_, fun o ho => ⟨hc o ho, ?_⟩⟩
  · obtain ⟨free, -⟩ := (h p).free
    rw [free] at hp; cases hp
  · obtain ⟨-, none⟩ := (h p).free
    rw [none]; exact Nat.zero_le _
  · obtain ⟨-, none⟩ := (h o.press).free
    rw [none]; exact Nat.zero_le _

/-- Every press and the station at their reset values, and images that keep to the room. -/
theorem Keeps.of_reset {s t : State} {zero : Int} (station : t.station = Station.reset zero)
    (presses : t.presses = Tab.fill Press.reset) (images : ImagesSound s → ImagesSound t) : Keeps s t := by
  have noOrder : t.station.current = none := by rw [station]; rfl
  refine ⟨fun _ => by rw [station]; exact sound_station_reset zero,
    fun ⟨image, stored, _⟩ => roomSound_of_noOrder (images ⟨image, stored⟩) noOrder,
    fun _ => pressesSound_of_derived (fun p => .inl ?_) fun o ho => by rw [noOrder] at ho; cases ho⟩
  rw [State.press, presses, Tab.get_fill]

theorem keeps_powerOnValues (s : State) (phase : Phase) (rate : Nat) : Keeps s (s.powerOnValues phase rate) := by
  refine .of_reset rfl rfl fun ⟨_, stored⟩ => ⟨roomSound_default, fun m hm => stored m (mem_images.mpr ?_)⟩
  rcases mem_images.mp hm with copy | ⟨f, hf, -⟩
  · exact .inl copy
  · cases hf

theorem keeps_beginRecall {s : State} (hn : s.phase ≠ .running) : Keeps s s.beginRecall := by
  unfold State.beginRecall
  rw [HeaterPower.countFreeRead_eq]
  exact .of_watched (by simp [watched, hn])

theorem keeps_powerOn (s : State) : Keeps s s.powerOn := by
  have values := keeps_powerOnValues s .waiting s.recallRate
  unfold State.powerOn
  dsimp only
  split
  · exact values
  · exact values.trans (keeps_beginRecall (by simp [State.powerOnValues]))

theorem keeps_powerOnReset (s : State) (pfail : Bool) : Keeps s (s.powerOnReset pfail) := by
  have level : Keeps s { s with pfail := pfail } := .of_watched rfl
  unfold State.powerOnReset
  dsimp only
  split
  · next hp =>
    split
    · exact (level.trans (keeps_withoutSupply _)).trans (keeps_powerOn _)
    · exact .of_watched (by simp [watched, hp])
  · next hp =>
    split
    · exact level.trans (keeps_powerOn _)
    · exact level.trans (keeps_beginRecall (by simp [hp]))
  · exact level.trans (keeps_powerOn _)
  · exact level.trans (keeps_powerOn _)
  all_goals exact (level.trans (keeps_withoutSupply _)).trans (keeps_powerOn _)

/-! ## The completion of a reset (R99, R156) -/

theorem derivePress_derived (s : State) (p : Fin 4) : Derived ((s.derivePress p).press p) := by
  unfold State.derivePress
  split
  · exact .inl (State.press_modPress s p _)
  · exact .inr (State.press_modPress s p _)

/-- Once the presses of a list have derived their states, each of them is as a reset leaves it. -/
theorem derived_foldl (l : List (Fin 4)) (s : State) (p : Fin 4) (h : p ∈ l ∨ Derived (s.press p)) :
    Derived ((l.foldl State.derivePress s).press p) := by
  induction l generalizing s with
  | nil => exact h.resolve_left List.not_mem_nil
  | cons q l ih =>
    refine ih _ ?_
    by_cases hp : p = q
    · subst hp; exact .inr (derivePress_derived s p)
    · rw [(PressOnly.derivePress (p := q) s).others p hp]
      exact h.imp_left fun hm => (List.mem_cons.mp hm).resolve_left hp

/-- What deriving the presses leaves alone, but for the presses and the Link Port. -/
theorem derive_foldl_eq (l : List (Fin 4)) (s : State) :
    l.foldl State.derivePress s =
      { s with presses := (l.foldl State.derivePress s).presses, link := (l.foldl State.derivePress s).link } := by
  have once (t : State) (p : Fin 4) :
      t.derivePress p = { t with presses := (t.derivePress p).presses, link := (t.derivePress p).link } := by
    unfold State.derivePress
    split <;> rfl
  induction l generalizing s with
  | nil => rfl
  | cons p l ih => rw [List.foldl_cons, ih, once]

/-- A completed reset leaves every press derived, and its other work is on the timers, the Link Port and the lines. -/
theorem completeReset_facts (s : State) :
    (∀ p, Derived (s.completeReset.press p)) ∧ s.completeReset.station = s.station ∧
      s.completeReset.heat = s.heat ∧ s.completeReset.image = s.image ∧
      s.completeReset.retained.images = s.retained.images := by
  have press := fun p => derived_foldl (List.finRange 4) { s with inputs := s.lines, historyRaised := false } p
    (.inl (List.mem_finRange p))
  have eq := derive_foldl_eq (List.finRange 4) { s with inputs := s.lines, historyRaised := false }
  unfold State.completeReset
  generalize (List.finRange 4).foldl State.derivePress { s with inputs := s.lines, historyRaised := false } = t at press eq
  dsimp only
  refine ⟨fun p => ?_, ?_, ?_, ?_, ?_⟩
  · simpa [State.press, State.startPeriodic] using press p
  all_goals simp only [State.modLink_station, State.modLink_heat, State.modLink_image, State.modLink_retained,
    State.startPeriodic, State.modRetained_station, State.modRetained_heat, State.modRetained_image,
    State.modRetained_retained, State.historyTest_station, State.historyTest_heat, State.historyTest_image,
    State.historyTest_retained]
  all_goals rw [eq]
  rfl

/-- A completed reset, after which the part works: nothing of the old presses is left to be sound. -/
theorem keeps_completeWarm (s : State) : Keeps s s.completeWarm := by
  obtain ⟨derived, station, heat, image, images⟩ := completeReset_facts s
  unfold State.completeWarm
  generalize s.completeReset = t at derived station heat image images
  refine ⟨fun hs => by rw [station]; exact hs,
    roomSound_of (by rw [image]; exact .refl _) (fun _ hm => .inr (images ▸ hm)) (.inl (by rw [station])),
    fun ⟨_, _, _, order⟩ => pressesSound_of_derived derived fun o ho => ?_⟩
  rw [station] at ho
  obtain ⟨run, -⟩ := order o ho
  rw [State.pressHeat, heat]; exact run

theorem imagesSound_recalled {s : State} (h : ImagesSound s) : ImagesSound s.recalled := by
  obtain ⟨-, stored⟩ := h
  unfold State.recalled
  split
  · next m g hg => exact ⟨stored m (mem_images.mpr (.inl ⟨g, hg⟩)), stored⟩
  · exact ⟨roomSound_default, stored⟩

theorem imagesSound_of_records {s t : State} (h : RecordOnly s t) : ImagesSound s → ImagesSound t := by
  have images : t.retained.images = s.retained.images := by rw [h.eq]; rfl
  exact imagesSound_of (.of_records h.image) fun m hm => .inr (images ▸ hm)

/-- The recalled image keeps to the room because the copy did, and no order is current in a station started anew. -/
theorem keeps_completeRecall (s : State) : Keeps s s.completeRecall := by
  obtain ⟨derived, station, -, image, images⟩ := completeReset_facts (s.recalled.closeAll .scrapPower).restartStation
  have recalled (h : ImagesSound s) : ImagesSound (s.recalled.closeAll .scrapPower) :=
    imagesSound_of_records (RecordOnly.closeAll ..) (imagesSound_recalled h)
  have completed : Keeps s
      { (s.recalled.closeAll .scrapPower).restartStation.completeReset with phase := .running } := by
    generalize s.recalled.closeAll .scrapPower = u at *
    generalize hr : u.restartStation.completeReset = t at *
    have noOrder : t.station.current = none := by rw [station]; rfl
    refine ⟨fun _ => by rw [station]; exact sound_station_reset _,
      fun ⟨current, stored, _⟩ => roomSound_of_noOrder ?_ noOrder,
      fun _ => pressesSound_of_derived derived fun o ho => by rw [noOrder] at ho; cases ho⟩
    obtain ⟨current', stored'⟩ := recalled ⟨current, stored⟩
    exact ⟨by rw [image]; exact current', by rw [images]; exact stored'⟩
  unfold State.completeRecall State.raiseStarted
  split
  · exact (completed.raise _ _).raise _ _
  · exact completed.raise _ _

theorem imagesSound_of_press {p : Fin 4} {s t : State} (h : PressOnly p s t) : ImagesSound s → ImagesSound t := by
  have images : t.retained.images = s.retained.images := by rw [h.eq]; rfl
  exact imagesSound_of (.of_records h.records) fun m hm => .inr (images ▸ hm)

/-- What cutting each press's part short keeps, cutting them all short keeps. -/
theorem cutAllShort_induction {P : State → Prop} (hP : ∀ t p, P t → P (t.cutShort p)) {s : State} (h : P s) :
    P s.cutAllShort := by
  unfold State.cutAllShort
  generalize List.finRange 4 = l
  induction l generalizing s with
  | nil => exact h
  | cons p l ih => exact ih (hP s p h)

theorem imagesSound_cutAllShort {s : State} (h : ImagesSound s) : ImagesSound s.cutAllShort :=
  cutAllShort_induction (fun t _ => imagesSound_of_press (PressOnly.cutShort t)) h

theorem keeps_beginWarm (s : State) : Keeps s s.beginWarm := by
  have images (h : ImagesSound s) : ImagesSound (s.cutAllShort.closeAll .scrapReset) :=
    imagesSound_of_records (RecordOnly.closeAll ..) (imagesSound_cutAllShort h)
  unfold State.beginWarm
  generalize s.cutAllShort.closeAll .scrapReset = t at images
  exact .of_reset rfl rfl images

/-! ## The power fall (R100, R151, R152) -/

theorem keeps_stop {s : State} (hn : s.phase ≠ .running) (fallen : Bool) : Keeps s (s.stop fallen) := by
  have stopped : Keeps s { s with phase := .stopped } := .of_watched (by simp [watched, hn])
  unfold State.stop
  dsimp only
  split
  · exact stopped.trans (keeps_powerOn _)
  · exact stopped

theorem keeps_powerFallOn {s : State} (hn : s.phase ≠ .running) (final fallen : Bool) :
    Keeps s (s.powerFallOn final fallen) := by
  unfold State.powerFallOn
  split
  · refine Keeps.trans (.of_watched ?_) (keeps_startStore _)
    simp [watched, hn]
  · exact keeps_stop hn fallen

/-- With every valve off the presses are sound in a part that does not work (R73, R100). -/
theorem pressesSound_outputsOff {w : Bool} {s : State} (h : PressesSound w s) : PressesSound false s.outputsOff := by
  have press (p : Fin 4) : s.outputsOff.press p = { s.press p with valves := Valves.off } := Tab.get_mapWith ..
  refine pressesSound_of (s := s) (fun p hp => ?_) (fun p hp => ?_) (fun _ => rfl) (fun p => by rw [press]) (.inl rfl) h
  · obtain ⟨cause, bound, stroke, close, open_, timer, -⟩ := hp
    rw [press]
    exact ⟨cause, bound, stroke, close, open_, timer, rfl⟩
  · rw [press] at hp; exact .inl hp

theorem pressesSound_cutAllShort {w : Bool} {s : State} (h : PressesSound w s) : PressesSound w s.cutAllShort :=
  cutAllShort_induction (fun t _ ht => (PressKeeps.cutShort t).pressesSound ht) h

/-- Cutting parts short leaves the station and the images of Retained Memory alone, and writes records only. -/
theorem cutAllShort_frame (s : State) :
    s.cutAllShort.station = s.station ∧ s.cutAllShort.retained.images = s.retained.images ∧
      RecordsKept s.image s.cutAllShort.image := by
  refine cutAllShort_induction (P := fun t => t.station = s.station ∧ t.retained.images = s.retained.images ∧
    RecordsKept s.image t.image) (fun t p ⟨station, images, records⟩ => ?_) ⟨rfl, rfl, .refl _⟩
  have only := PressOnly.cutShort (p := p) t
  refine ⟨?_, ?_, records.trans only.records⟩
  · rw [only.eq]; exact station
  · rw [only.eq]; exact images

theorem keeps_beginPowerFall (s : State) : Keeps s s.beginPowerFall := by
  obtain ⟨station, images, records⟩ := cutAllShort_frame s.outputsOff
  have valves (h : s.pressesSound) := pressesSound_cutAllShort (pressesSound_outputsOff h)
  unfold State.beginPowerFall
  generalize s.outputsOff.cutAllShort = t at station images records valves
  dsimp only
  have current : t.station.current = s.station.current := by rw [station]; rfl
  have dark : Keeps s
      ({ t with phase := .powerFall false false, link := s.link.powerFall }.modRetained fun r =>
        { r with periodic := none, storeAgain := false }) :=
    ⟨fun hs => by rw [State.modRetained_station, station]; exact hs,
      roomSound_of (.of_records records) (fun m hm => .inr (images ▸ hm)) (.inl current), valves⟩
  split
  · exact dark
  · exact dark.trans (keeps_powerFallOn (by simp) _ _)

/-- An abandoned recall leaves the part stopped with the default image (R153). -/
theorem keeps_abandonRecall {s : State} (hn : s.phase ≠ .running) : Keeps s s.abandonRecall := by
  have frame : Keeps s { s with phase := .stopped, link := s.link.powerFall } := .of_watched (by simp [watched, hn])
  exact ⟨frame.station, fun ⟨_, stored, _⟩ => ⟨roomSound_default, stored, fun _ => ⟨Nat.zero_lt_succ _, rfl⟩⟩,
    frame.presses⟩

theorem keeps_pfailRises (s : State) : Keeps s s.pfailRises := by
  have level : Keeps s { s with pfail := true } := .of_watched rfl
  unfold State.pfailRises
  dsimp only
  split
  · exact level.trans (keeps_beginPowerFall _)
  · exact level.trans (keeps_beginPowerFall _)
  · next hp => exact level.trans (keeps_abandonRecall (by simp [hp]))
  all_goals exact level

theorem keeps_storeCompletes {s : State} {f : InFlight} (h : s.retained.store = some f) : Keeps s (s.storeCompletes f) := by
  have finished := keeps_finishStore h
  have again : Keeps s (s.finishStore f).storeOnceMore := finished.trans (keeps_storeOnceMore _)
  unfold State.storeCompletes
  dsimp only
  split
  · next hp => exact finished.trans (keeps_powerFallOn (by simp [State.finishStore, hp]) _ _)
  · exact again.pump
  · exact again.pump
  all_goals exact again

/-! ## A millisecond (R57, R75, R76, R83, R90, R93, R150) -/

theorem keeps_later (s : State) : Keeps s s.later := by
  unfold State.later
  split
  · have press (p : Fin 4) : (s.presses.mapWith fun _ x => x.later).get p = (s.press p).later := Tab.get_mapWith ..
    refine ⟨fun h => ?_, roomSound_of (.refl _) (fun _ hm => .inr hm) (.inl rfl), pressesSound_of (fun p hp => ?_)
      (fun p hp => .inl ?_) (fun _ => rfl) (fun p => ?_) (.inl rfl)⟩
    · obtain ⟨window, averages, queue, current, settle, rest⟩ := h
      exact ⟨window, averages, queue, current, fun hs => settle (by simpa using hs), rest⟩
    · rw [State.press, press]
      simpa [Press.sound, Press.later] using hp
    · rw [State.press, press] at hp; exact hp
    · rw [State.press, press, Press.later, List.length_map]
  · exact .refl s

end Sys2Proof.Machine.ChargeWeighing

/-!
PROOF. Every command keeps the Weigh Station, the presses and the room sound (O55, O57, O58).
-/

namespace Sys2Proof.Machine.ChargeWeighing

/-! ## The owners of the requests -/

theorem keeps_ownRestart (s : State) : Keeps s (ownRestart s) := (Keeps.answered s _ _).modLink _

theorem keeps_ownSetClock (seconds : Word) (s : State) : Keeps s (ownSetClock seconds s) := by
  unfold ownSetClock
  refine Keeps.answer ?_ _ _
  exact .of_watched rfl

theorem keeps_ownReadEvents (s : State) : Keeps s (ownReadEvents s) := ((Keeps.refl s).modLink _).answer _ _

theorem keeps_ownMaskEvents (mode : Byte) (kinds : List Byte) (s : State) : Keeps s (ownMaskEvents mode kinds s) := by
  unfold ownMaskEvents
  split
  · exact ((Keeps.refl s).modLink _).answer _ _
  all_goals exact .answered ..

theorem keeps_ownGetSetting (ident : Byte) (s : State) : Keeps s (ownGetSetting ident s) := by
  unfold ownGetSetting
  split <;> exact .answered ..

theorem keeps_ownSetSetting (ident : Byte) (value : Word) (s : State) : Keeps s (ownSetSetting ident value s) := by
  unfold ownSetSetting
  split
  · exact .answered ..
  · split
    · exact .answered ..
    · exact (keeps_writeSetting ..).answer _ _

/-- A write into the image that leaves the records and the next serial alone. -/
theorem keeps_writeAside {s : State} {f : Image → Image} (table : (f s.image).openTable = s.image.openTable)
    (ring : (f s.image).ring = s.image.ring) (serial : (f s.image).nextSerial = s.image.nextSerial) :
    Keeps s (s.writeImage f) :=
  .writeImage ⟨by rw [ring]; exact id, by rw [Image.recordCount, table, ring]; exact Nat.le_refl _, serial⟩

theorem keeps_ownSetTuning (zone kp ki : Byte) (s : State) : Keeps s (ownSetTuning zone kp ki s) := by
  unfold ownSetTuning
  split
  · exact .answered ..
  · exact (keeps_writeAside rfl rfl rfl).answer _ _

theorem keeps_ownWriteRecipe (slot : Byte) (r : RawRecipe) (s : State) : Keeps s (ownWriteRecipe slot r s) := by
  unfold ownWriteRecipe
  split
  · exact .answered ..
  · repeat' split
    · exact .answered ..
    · exact .answered ..
    · exact .answered ..
    · exact (keeps_writeAside rfl rfl rfl).answer _ _

theorem keeps_ownReadRecipe (slot : Byte) (s : State) : Keeps s (ownReadRecipe slot s) := by
  unfold ownReadRecipe
  split
  · exact .answered ..
  · split <;> exact .answered ..

theorem keeps_ownAssignRecipe (press slot : Byte) (s : State) : Keeps s (ownAssignRecipe press slot s) := by
  unfold ownAssignRecipe
  split
  · repeat' split
    · exact .answered ..
    · exact .answered ..
    · exact (keeps_writeAside rfl rfl rfl).answer _ _
  · exact .answered ..
  · exact .answered ..

theorem keeps_ownSetHeatMode (press mode : Byte) (standby : Half) (held : Byte) (s : State) :
    Keeps s (ownSetHeatMode press mode standby held s) := by
  unfold ownSetHeatMode
  split
  · split
    · exact .answered ..
    · next h => exact (keeps_setMode h _ _).answer _ _
  · exact .answered ..
  · exact .answered ..

theorem keeps_ownReadZones (press : Byte) (s : State) : Keeps s (ownReadZones press s) := by
  unfold ownReadZones
  split <;> exact .answered ..

theorem keeps_ownClearZone (zone : Byte) (s : State) : Keeps s (ownClearZone zone s) := by
  unfold ownClearZone
  split
  · exact .answered ..
  · split
    · exact (keeps_modZone ..).answer _ _
    · exact .answered ..

theorem keeps_ownDisableZone (zone : Byte) (s : State) : Keeps s (ownDisableZone zone s) := by
  unfold ownDisableZone
  split
  · exact .answered ..
  · exact (keeps_modZone ..).answer _ _

theorem keeps_ownEnableZone (zone : Byte) (s : State) : Keeps s (ownEnableZone zone s) := by
  unfold ownEnableZone
  split
  · exact .answered ..
  · split
    · exact (keeps_modZone ..).answer _ _
    · exact .answered ..

/-- LOAD is taken by a press in IDLE and in heat mode RUN (R77). -/
theorem idle_run_of_checkLoad {s : State} {p : Fin 4} {serial : Nat} (h : s.checkLoad p serial = none) :
    (s.press p).state = .idle ∧ (s.pressHeat p).mode = .run := by
  unfold State.checkLoad at h
  split at h
  · cases h
  · next idle =>
    split at h
    · cases h
    · next run => exact ⟨not_not.mp idle, not_not.mp run⟩

theorem keeps_ownLoad (press : Byte) (serial : Word) {s : State} (hr : s.phase = .running) :
    Keeps s (ownLoad press serial s) := by
  unfold ownLoad
  split
  · exact .answered ..
  · split
    · exact .answered ..
    · next h _ =>
      obtain ⟨idle, run⟩ := idle_run_of_checkLoad h
      exact ((PressKeeps.loadTicket idle run _).keeps hr).answer _ _
    · exact .answered ..

/-- CLOSE is taken by a press in LOADED (R79). -/
theorem loaded_of_checkClose {s : State} {p : Fin 4} (h : s.checkClose p = none) : (s.press p).state = .loaded := by
  unfold State.checkClose at h
  split at h
  · cases h
  · next loaded => exact not_not.mp loaded

theorem keeps_ownClose (press : Byte) {s : State} (hr : s.phase = .running) : Keeps s (ownClose press s) := by
  unfold ownClose
  split
  · exact .answered ..
  · split
    · exact .answered ..
    · next h =>
      exact (((PressKeeps.startClosing (loaded_of_checkClose h)).trans (.settled _)).keeps hr).answer _ _

theorem keeps_ownOpen (press : Byte) {s : State} (hr : s.phase = .running) : Keeps s (ownOpen press s) := by
  unfold ownOpen
  split
  · exact .answered ..
  · split
    · exact .answered ..
    · next curing =>
      split
      · exact .answered ..
      · exact (((PressKeeps.startToOpen (.inr (not_not.mp curing))).trans (.settled _)).keeps hr).answer _ _

/-- ABORT in CLOSING or CURING starts to open (R88). -/
theorem keeps_abortMoving {s : State} {p : Fin 4} (hr : s.phase = .running)
    (h : (s.press p).state = .closing ∨ (s.press p).state = .curing) :
    Keeps s (((s.markAborted p).startToOpen p).settled p) := by
  have marked : (s.markAborted p).press p = s.press p := press_writeBound ..
  exact (((PressKeeps.markAborted s).trans (.startToOpen (by rw [marked]; exact h))).trans (.settled _)).keeps hr

theorem keeps_ownAbort (press : Byte) {s : State} (hr : s.phase = .running) : Keeps s (ownAbort press s) := by
  unfold ownAbort
  split
  · exact .answered ..
  · split
    · next h => exact ((PressKeeps.closeToIdle (.inl h) _).keeps hr).answer _ _
    · next h => exact (keeps_abortMoving hr (.inl h)).answer _ _
    · next h => exact (keeps_abortMoving hr (.inr h)).answer _ _
    all_goals exact .answered ..

theorem keeps_ownRelease (press : Byte) {s : State} (hr : s.phase = .running) : Keeps s (ownRelease press s) := by
  unfold ownRelease
  split
  · exact .answered ..
  · split
    · next h => exact ((PressKeeps.closeToIdle (.inr h) _).keeps hr).answer _ _
    · exact .answered ..

theorem keeps_ownClearFault (press : Byte) {s : State} (hr : s.phase = .running) : Keeps s (ownClearFault press s) := by
  unfold ownClearFault
  split
  · exact .answered ..
  · split
    · exact .answered ..
    · next fault =>
      split
      · exact ((PressKeeps.clearFault (not_not.mp fault)).keeps hr).answer _ _
      · exact .answered ..

theorem keeps_ownReadPress (press : Byte) (s : State) : Keeps s (ownReadPress press s) := by
  unfold ownReadPress
  split <;> exact .answered ..

theorem keeps_ownReadHistory (start : Half) (count : Byte) (s : State) : Keeps s (ownReadHistory start count s) := by
  unfold ownReadHistory
  split <;> exact .answered ..

theorem keeps_ownCollect (n : Half) (s : State) : Keeps s (ownCollect n s) := by
  unfold ownCollect
  split
  · exact .answered ..
  · exact (Keeps.writeImage (roomKept_collect ..)).historyTest.answer _ _

theorem keeps_ownAnnotate (serial : Word) (result inspector : Byte) (s : State) :
    Keeps s (ownAnnotate serial result inspector s) := by
  unfold ownAnnotate
  split
  · exact .answered ..
  · split
    · exact .answered ..
    · repeat' split
      · exact .answered ..
      · exact .answered ..
      · exact (Keeps.writeImage (roomKept_modRecord ..)).answer _ _

theorem keeps_ownReadOpen (serial : Word) (s : State) : Keeps s (ownReadOpen serial s) := by
  unfold ownReadOpen
  split <;> exact .answered ..

theorem keeps_ownStore (s : State) : Keeps s (ownStore s) := by
  unfold ownStore
  split
  · exact (Keeps.modRetained fun _ hm => .inr hm).answer _ _
  · exact (keeps_startStore s).answer _ _

theorem keeps_ownSnapshotCounters (press clear : Byte) (s : State) : Keeps s (ownSnapshotCounters press clear s) := by
  unfold ownSnapshotCounters
  split
  · exact (keeps_snapshot ..).answer _ _
  · exact .answered ..
  · exact .answered ..

theorem keeps_ownReadCounters (press : Byte) (s : State) : Keeps s (ownReadCounters press s) := by
  unfold ownReadCounters
  split <;> exact .answered ..

/-! ## The events -/

theorem keeps_hear (s : State) (bytes : List Byte) : Keeps s (s.hear bytes) := (Keeps.blind s).hear (.refl s) bytes

theorem keeps_abandonFrame (s : State) : Keeps s s.abandonFrame := by
  rw [State.abandonFrame_eq]
  exact .of_watched rfl

theorem keeps_pressEvent {p : Fin 4} {act : State → State} (hact : ∀ u, PressKeeps true p u (act u)) (s : State) :
    Keeps s (plantEvent s act) := .plantEvent (fun u hr => (hact u).keeps hr) s

theorem keeps_inputEvent (p : Fin 4) (levels : PressInputs) (guardRise : Bool) (s : State) :
    Keeps s (inputEvent p levels guardRise s) := by
  unfold inputEvent
  dsimp only
  split
  · refine Keeps.trans ?_ (keeps_pressEvent (fun u => .settled (p := p) u) _)
    exact .of_watched rfl
  · exact .of_watched rfl

theorem keeps_guardFalls {s : State} (hr : s.phase = .running) : Keeps s s.guardFalls := by
  unfold State.guardFalls
  refine Keeps.trans ?_ (.foldl_running (fun t p ht => ?_) _ hr)
  · exact .of_watched rfl
  · have acted := PressKeeps.guardAt (w := true) (p := p) t
    exact ⟨(Keeps.blind t).oneChange (acted.keeps ht), by rw [oneChange_phase, acted.only.eq]; exact ht⟩

/-- The state a command answers. -/
theorem keeps_of_next {s t u : State} (e : (.next u : Host.Outcome State Fault Refusal) = .next t) (h : Keeps s u) :
    Keeps s t := Host.Outcome.next.inj e ▸ h

/-- A request whose owner keeps the invariants whenever the part works. -/
theorem keeps_request {own : State → State} (hown : ∀ u, u.phase = .running → Keeps u (own u)) {s t : State}
    {kind tag : Byte} {body : List Byte}
    (e : (.next (s.serve kind tag body own) : Host.Outcome State Fault Refusal) = .next t) : Keeps s t :=
  keeps_of_next e (.serve hown ..)

theorem keeps_execTransmitComplete {s t : State} (e : execTransmitComplete s = .next t) : Keeps s t := by
  have sent : Keeps s (s.modLink Link.sent) := (Keeps.refl s).modLink _
  obtain rfl := Host.Outcome.next.inj e
  split
  · exact ((sent.trans (keeps_beginWarm _)).trans (keeps_completeWarm _)).pump
  · exact sent.pump

theorem keeps_execThermocoupleReading {z : Fin 24} {x : Reading} {s t : State}
    (e : execThermocoupleReading z x s = .next t) : Keeps s t := by
  obtain rfl := Host.Outcome.next.inj e
  split
  · exact (keeps_takeReading s z x).pump
  · exact .refl s

theorem keeps_execHeaterSlot {s t : State} (e : execHeaterSlot s = .next t) : Keeps s t := by
  obtain rfl := Host.Outcome.next.inj e
  split
  · exact .of_watched rfl
  · exact .refl s

theorem keeps_execGuardOkFall {s t : State} (e : execGuardOkFall s = .next t) : Keeps s t := by
  have low : Keeps s { s with lines := { s.lines with guardOk := false } } := .of_watched rfl
  obtain rfl := Host.Outcome.next.inj e
  split
  · next hr => exact (low.trans (keeps_guardFalls hr)).pump
  · exact low

theorem keeps_execStoreComplete {s t : State} (e : execStoreComplete s = .next t) : Keeps s t := by
  obtain rfl := Host.Outcome.next.inj e
  split
  · next h => exact keeps_storeCompletes h
  · exact .refl s

theorem keeps_execRecallComplete {s t : State} (e : execRecallComplete s = .next t) : Keeps s t := by
  obtain rfl := Host.Outcome.next.inj e
  split
  · exact (keeps_completeRecall s).pump
  · exact .refl s

theorem keeps_execResetLineLow {s t : State} (e : execResetLineLow s = .next t) : Keeps s t := by
  obtain rfl := Host.Outcome.next.inj e
  split
  · exact keeps_beginWarm s
  · exact .refl s

theorem keeps_execResetLineHigh {s t : State} (e : execResetLineHigh s = .next t) : Keeps s t := by
  obtain rfl := Host.Outcome.next.inj e
  split
  · exact (keeps_completeWarm s).pump
  · exact .refl s

theorem keeps_execClockTick {s t : State} (e : execClockTick s = .next t) : Keeps s t := by
  obtain rfl := Host.Outcome.next.inj e
  split
  · exact .of_watched rfl
  · exact .refl s

/-! ## Every command and every step -/

theorem keeps_exec (c : Instr) {s t : State} (e : exec c s = .next t) : Keeps s t :=
  match c with
  | .identify _ => keeps_request (own := ownIdentify) (fun u _ => .answered u _ _) e
  | .cellStatus _ => keeps_request (own := ownCellStatus) (fun u _ => .answered u _ _) e
  | .restart _ => keeps_request (fun u _ => keeps_ownRestart u) e
  | .setClock _ seconds => keeps_request (fun u _ => keeps_ownSetClock seconds u) e
  | .readClock _ => keeps_request (own := ownReadClock) (fun u _ => .answered u _ _) e
  | .readEvents _ => keeps_request (fun u _ => keeps_ownReadEvents u) e
  | .maskEvents _ mode kinds => keeps_request (fun u _ => keeps_ownMaskEvents mode kinds u) e
  | .getSetting _ ident => keeps_request (fun u _ => keeps_ownGetSetting ident u) e
  | .setSetting _ ident value => keeps_request (fun u _ => keeps_ownSetSetting ident value u) e
  | .setTuning _ zone kp ki => keeps_request (fun u _ => keeps_ownSetTuning zone kp ki u) e
  | .writeRecipe _ slot recipe => keeps_request (fun u _ => keeps_ownWriteRecipe slot recipe u) e
  | .readRecipe _ slot => keeps_request (fun u _ => keeps_ownReadRecipe slot u) e
  | .assignRecipe _ press slot => keeps_request (fun u _ => keeps_ownAssignRecipe press slot u) e
  | .setHeatMode _ press mode standby held =>
    keeps_request (fun u _ => keeps_ownSetHeatMode press mode standby held u) e
  | .readZones _ press => keeps_request (fun u _ => keeps_ownReadZones press u) e
  | .clearZone _ zone => keeps_request (fun u _ => keeps_ownClearZone zone u) e
  | .disableZone _ zone => keeps_request (fun u _ => keeps_ownDisableZone zone u) e
  | .enableZone _ zone => keeps_request (fun u _ => keeps_ownEnableZone zone u) e
  | .postOrder _ orderTag press => keeps_request (fun u _ => keeps_ownPostOrder orderTag press u) e
  | .cancelOrder _ orderTag => keeps_request (fun u _ => keeps_ownCancelOrder orderTag u) e
  | .zeroScale _ => keeps_request (fun u _ => keeps_ownZeroScale u) e
  | .readScale _ => keeps_request (own := ownReadScale) (fun u _ => .answered u _ _) e
  | .load _ press serial => keeps_request (fun _ hr => keeps_ownLoad press serial hr) e
  | .close _ press => keeps_request (fun _ hr => keeps_ownClose press hr) e
  | .openPress _ press => keeps_request (fun _ hr => keeps_ownOpen press hr) e
  | .abort _ press => keeps_request (fun _ hr => keeps_ownAbort press hr) e
  | .release _ press => keeps_request (fun _ hr => keeps_ownRelease press hr) e
  | .clearFault _ press => keeps_request (fun _ hr => keeps_ownClearFault press hr) e
  | .readPress _ press => keeps_request (fun u _ => keeps_ownReadPress press u) e
  | .readHistory _ start count => keeps_request (fun u _ => keeps_ownReadHistory start count u) e
  | .collect _ n => keeps_request (fun u _ => keeps_ownCollect n u) e
  | .annotate _ serial result inspector => keeps_request (fun u _ => keeps_ownAnnotate serial result inspector u) e
  | .readOpen _ serial => keeps_request (fun u _ => keeps_ownReadOpen serial u) e
  | .store _ => keeps_request (fun u _ => keeps_ownStore u) e
  | .snapshotCounters _ press clear => keeps_request (fun u _ => keeps_ownSnapshotCounters press clear u) e
  | .readCounters _ press => keeps_request (fun u _ => keeps_ownReadCounters press u) e
  | .goodFrame _ _ _ => keeps_of_next e (.lineEvent (fun u => keeps_hear u _) s)
  | .badCrcFrame _ _ _ _ => keeps_of_next e (.lineEvent (fun u => keeps_hear u _) s)
  | .overLengthFrame _ _ _ _ => keeps_of_next e (.lineEvent (fun u => keeps_hear u _) s)
  | .interbyteGapTimeout bytes =>
    keeps_of_next e (.lineEvent (fun u => ((keeps_hear u bytes).trans (keeps_abandonFrame _)).modLink _) s)
  | .framingError bytes => keeps_of_next e (.lineEvent (fun u => (keeps_hear u bytes).trans (keeps_abandonFrame _)) s)
  | .transmitComplete => keeps_execTransmitComplete e
  | .thermocoupleReading _ _ => keeps_execThermocoupleReading e
  | .heatFrameBoundary => keeps_of_next e (.plantEvent (fun _ hr => keeps_boundary hr) s)
  | .heaterSlot => keeps_execHeaterSlot e
  | .goodSample count =>
    keeps_of_next e (.plantEvent (fun u _ => (keeps_windowed u count).trans (keeps_onSample _)) s)
  | .faultedSample => keeps_of_next e (.plantEvent (fun u _ => keeps_faultSample u) s)
  | .settleTimeout => keeps_of_next e (.plantEvent (fun u _ => keeps_settleExpires u) s)
  | .ticketPotLifeExpiry _ serial => keeps_of_next e (keeps_pressEvent (fun u => .expireTicket u serial.toNat) s)
  | .boundPotLifeExpiry _ => keeps_of_next e (keeps_pressEvent .expireBound s)
  | .curingConditionMet _ _ _ => keeps_of_next e (keeps_inputEvent ..)
  | .pressureDip _ _ _ _ => keeps_of_next e (keeps_inputEvent ..)
  | .guardOkFall => keeps_execGuardOkFall e
  | .openLimitMet _ _ _ => keeps_of_next e (keeps_inputEvent ..)
  | .ejectOutMet _ _ _ => keeps_of_next e (keeps_inputEvent ..)
  | .ejectHomeMet _ _ _ => keeps_of_next e (keeps_inputEvent ..)
  | .openLimitDrift _ _ _ => keeps_of_next e (keeps_inputEvent ..)
  | .keyChange _ => keeps_of_next e (.of_watched rfl)
  | .closeTimerExpiry _ => keeps_of_next e (keeps_pressEvent .closeExpires s)
  | .openTimerExpiry _ => keeps_of_next e (keeps_pressEvent .openExpires s)
  | .strokeTimerExpiry _ => keeps_of_next e (keeps_pressEvent .strokeExpires s)
  | .minimumOpenExpiry _ => keeps_of_next e (keeps_pressEvent .minOpenElapses s)
  | .storeComplete => keeps_execStoreComplete e
  | .periodicStoreExpiry => keeps_of_next e (.plantEvent (fun u _ => keeps_periodicExpires u) s)
  | .pfailRise => keeps_of_next e (keeps_pfailRises s)
  | .powerOnReset pfail => keeps_of_next e (keeps_powerOnReset s pfail)
  | .recallComplete => keeps_execRecallComplete e
  | .resetLineLow => keeps_execResetLineLow e
  | .resetLineHigh => keeps_execResetLineHigh e
  | .clockTick => keeps_execClockTick e
  | .pressureDipEnd _ _ _ => keeps_of_next e (keeps_inputEvent ..)
  | .supplyLost => keeps_of_next e ((keeps_withoutSupply s).trans (keeps_powerOnValues ..))

/-- A step is a command on the rest of the queue, or a millisecond. -/
theorem keeps_step {s t : State} (e : step s = .next t) : Keeps s t := by
  unfold step at e
  split at e
  · exact keeps_of_next e (keeps_later s)
  · next c rest _ =>
    have dequeued : Keeps s { s with pending := rest } := .of_watched rfl
    exact dequeued.trans (keeps_exec c e)

/-- Settles O55: of the station's invariant nothing is needed, for the presses' own says what an order's press is. -/
theorem everyStepKeepsThePressesSound : Obligations.EveryStepKeepsThePressesSound := by
  unfold Obligations.EveryStepKeepsThePressesSound
  exact fun s t h _ e => (keeps_step e).presses h

/-- Settles O57: what every command keeps, of the station. -/
theorem everyStepKeepsTheStationSound : Obligations.EveryStepKeepsTheStationSound := by
  unfold Obligations.EveryStepKeepsTheStationSound
  exact fun s t h e => (keeps_step e).station h

/-- Settles O58: a capture takes the place that was free when its order was taken. -/
theorem everyStepKeepsTheRoom : Obligations.EveryStepKeepsTheRoom := by
  unfold Obligations.EveryStepKeepsTheRoom
  exact fun s t h _ e => (keeps_step e).room h

end Sys2Proof.Machine.ChargeWeighing

/-!
PROOF. The idle step (O3), the orders (O28), the new zero (O29) and the faulted sample (O33).
-/

namespace Sys2Proof.Machine.ChargeWeighing

/-! ## The idle step -/

theorem countDown_eq (n : Nat) : countDown n = if 1 < n then n - 1 else n := by
  unfold countDown
  split <;> split <;> omega

/-- Settles O3: a step on an empty queue is `State.later`. -/
theorem anIdleStepPassesOneMillisecond : Obligations.AnIdleStepPassesOneMillisecond := by
  unfold Obligations.AnIdleStepPassesOneMillisecond
  intro s empty
  have idle : step s = .next s.later := by rw [step, empty]
  have counts : countDown = fun n => if 1 < n then n - 1 else n := funext countDown_eq
  refine ⟨fun hn => by rw [idle, State.later, if_neg hn], fun hr => ⟨_, idle, ?_⟩⟩
  rw [State.later, if_pos hr]
  refine ⟨rfl, rfl, rfl, rfl, fun n hn => ?_, fun hn => ?_, fun n hn => ?_, fun hn => ?_, fun p => ?_⟩
  · rw [← countDown_eq]; exact congrArg (Option.map countDown) hn
  · exact congrArg (Option.map countDown) hn
  · rw [← countDown_eq]; exact congrArg (Option.map countDown) hn
  · exact congrArg (Option.map countDown) hn
  have press : (s.presses.mapWith fun _ x => x.later).get p = (s.press p).later := Tab.get_mapWith ..
  rw [State.press, press]
  refine ⟨rfl, ?_, fun f hf => ?_⟩
  · change (s.press p).tickets.map Ticket.later = _
    exact List.map_congr_left fun k _ => by rw [Ticket.later, countDown_eq]
  · rw [← counts]
    simp only [List.mem_cons, List.not_mem_nil, or_false] at hf
    rcases hf with rfl | rfl | rfl | rfl | rfl
    · rfl
    · rfl
    · rfl
    · rfl
    · change ((s.press p).bound.map Bound.later).bind Bound.pot = ((s.press p).bound.bind Bound.pot).map countDown
      cases (s.press p).bound <;> rfl

/-! ## Requests to the station -/

theorem pressNo_eq {b : Byte} {p : Fin 4} (h : b.toNat = p.val) : pressNo b = some p := by
  unfold pressNo
  rw [dif_pos (by omega)]
  exact congrArg some (Fin.ext h)

theorem pressNo_none {b : Byte} (h : 3 < b.toNat) : pressNo b = none := dif_neg (by omega)

/-- An owner that acts on no image and then answers. -/
theorem serve_aside {s u : State} {kind tag : Byte} {body : List Byte} (h : s.holds kind tag body)
    {own : State → State} {st : Status} {data : List Byte} (e : own s = u.answer st data) (hp : u.phase = s.phase)
    (hr : u.retained = s.retained) (hi : u.link.inHand = s.link.inHand) :
    s.serve kind tag body own = u.repliedTo kind tag body st data := by
  rw [State.serve_act h e hp hi, oneChange_of (.inl (by rw [hr]))]

/-- Settles O28: the owners' cases, one for each answer. -/
theorem ordersArePostedAndCancelled : Obligations.OrdersArePostedAndCancelled := by
  unfold Obligations.OrdersArePostedAndCancelled
  refine ⟨fun s tag orderTag press h => ⟨fun hp => ?_, fun p hp => ⟨fun full => ?_, fun room => ?_⟩⟩,
    fun s tag orderTag h => ⟨fun before after o queue first others => ?_, fun none =>
      ⟨fun o current first => ?_, fun other => ?_⟩⟩⟩
  · refine congrArg Host.Outcome.next (State.serve_answer h ?_)
    rw [ownPostOrder, pressNo_none hp]
  · refine congrArg Host.Outcome.next (State.serve_answer h ?_)
    rw [ownPostOrder, pressNo_eq hp]
    exact if_pos full
  · refine congrArg Host.Outcome.next (serve_aside h ?_ rfl rfl rfl)
    rw [ownPostOrder, pressNo_eq hp]
    exact if_neg (by omega)
  · have erased : s.station.queue.eraseP (Order.hasTag orderTag) = before ++ after := by
      rw [queue, List.eraseP_append_right _ fun q hq => by simpa [Order.hasTag] using others q hq,
        List.eraseP_cons_of_pos (by simpa [Order.hasTag] using first)]
    refine congrArg Host.Outcome.next (serve_aside h ?_ rfl rfl rfl)
    rw [ownCancelOrder, if_pos (List.any_eq_true.mpr ⟨o, by simp [queue], by simpa [Order.hasTag] using first⟩),
      ← erased]
    rfl
  all_goals
    have unqueued : ¬ s.station.queue.any (Order.hasTag orderTag) = true := by
      simpa [Order.hasTag] using none
  · refine congrArg Host.Outcome.next (serve_aside h ?_ rfl rfl rfl)
    rw [ownCancelOrder, if_neg unqueued,
      if_pos (by rw [Station.currentHas, current]; simpa [Order.hasTag] using first)]
    rfl
  · have notCurrent : ¬ s.station.currentHas orderTag = true := by
      unfold Station.currentHas
      split
      · next o current => simpa [Order.hasTag] using other o current
      · simp
    refine congrArg Host.Outcome.next (State.serve_answer h ?_)
    rw [ownCancelOrder, if_neg unqueued, if_neg notCurrent]
    split <;> rfl

/-! ## Stability and zero -/

/-- The scale is stable when 25 averages are held, the youngest of a full window, within the band (R45). -/
theorem stableNow_iff (w : Station) (band : Nat) :
    w.stableNow band = true ↔
      8 ≤ w.window.length ∧ w.averages.length = 25 ∧
        ∀ a ∈ w.averages, ∀ b ∈ w.averages, a - b ≤ (band : Int) := by
  have defined (full : w.averages.length = 25) : w.avg.isSome = true ↔ 8 ≤ w.window.length := by
    have held : w.averages ≠ [] := fun e => by rw [e] at full; cases full
    unfold Station.avg
    split
    · simp; omega
    · simp [held]; omega
  simp only [Station.stableNow, withinBand, Bool.and_eq_true, decide_eq_true_eq, List.all_eq_true]
  constructor
  · rintro ⟨⟨avg, full⟩, band⟩
    exact ⟨(defined full).mp avg, full, band⟩
  · rintro ⟨window, full, band⟩
    exact ⟨⟨(defined full).mpr window, full⟩, band⟩

theorem avgWithin_iff {w : Station} {a : Int} (h : w.avg = some a) (range : Nat) :
    w.avgWithin range = true ↔ a ≤ (range : Int) ∧ -(range : Int) ≤ a := by
  rw [Station.avgWithin, h]
  simp only [decide_eq_true_eq]
  omega

/-- A zero capture: the mean of the 8 net counts joins the offset, which is held within 24 bits (R47). -/
theorem zeroCapture_eq (s : State) :
    s.zeroCapture =
      { s with
        station :=
          { s.station with
            offset := max (-8388608) (min 8388607 (s.station.offset + (s.station.window.map Entry.net).sum / 8)),
            window := [], averages := [], stable := false, chargesSinceZero := 0, postponements := 0,
            zeroDue := false, state := .empty } }.raise .weigh .zeroTaken := by
  rw [← HeaterPower.clamp_eq _ _ _ (by decide)]
  rfl

theorem raise_inHand (s : State) (src : Source) (k : EventKind) : (s.raise src k).link.inHand = s.link.inHand := by
  obtain ⟨-, -, inHand, -⟩ := State.raise_link_frame s src k
  exact inHand

/-- Settles O29: the checks in order, and the zero capture. -/
theorem zeroScaleTakesANewZero : Obligations.ZeroScaleTakesANewZero := by
  unfold Obligations.ZeroScaleTakesANewZero
  intro s tag h w busy steady
  have stable : s.scaleStable = true ↔ steady := stableNow_iff ..
  refine ⟨fun hb => ?_, fun hb hs => ?_, fun avg hb hs last => ?_⟩
  · refine congrArg Host.Outcome.next (State.serve_answer h ?_)
    rw [ownZeroScale, State.checkZeroScale, if_pos hb]
  · refine congrArg Host.Outcome.next (State.serve_answer h ?_)
    rw [ownZeroScale, State.checkZeroScale, if_neg hb, if_pos (by simpa [← stable] using hs)]
  have defined : s.station.avg = some avg := by
    obtain ⟨window, -⟩ := hs
    rw [Station.avg, if_neg (Nat.not_lt.mpr window)]; exact last
  have within := avgWithin_iff defined s.image.settings.zeroRange
  have check : s.checkZeroScale =
      if !s.station.avgWithin s.image.settings.zeroRange then some .badValue else none := by
    rw [State.checkZeroScale, if_neg hb, if_neg (by simpa using stable.mpr hs)]
  refine ⟨fun out => ?_, fun above below => ?_⟩
  · have outside : s.station.avgWithin s.image.settings.zeroRange = false :=
      Bool.eq_false_iff.mpr fun inside => by have := within.mp inside; omega
    refine congrArg Host.Outcome.next (State.serve_answer h ?_)
    rw [ownZeroScale, check, outside]
    rfl
  · refine congrArg Host.Outcome.next (serve_aside h ?_ rfl rfl (raise_inHand ..))
    rw [ownZeroScale, check, within.mpr ⟨above, below⟩]
    exact congrArg (State.answer · .ok []) (zeroCapture_eq s)

/-! ## A faulted sample and the settle timer -/

/-- An event of the plant that changes nothing in Retained Memory. -/
theorem plantEvent_aside {s : State} {act : State → State} (hr : s.phase = .running)
    (h : (act s).retained = s.retained) : plantEvent s act = (act s).pump := by
  rw [plantEvent, if_pos hr, oneChange_of (.inl (by rw [h]))]

theorem faulted_eq (w : Station) :
    w.faulted =
      { w with
        state := .fault, window := [], averages := [], stable := false, settle := none, current := none,
        queue := returnedQueue w,
        orderDrops :=
          if w.current ≠ none ∧ 8 ≤ w.queue.length then min 65535 (w.orderDrops + 1) else w.orderDrops } := by
  rw [Station.faulted, returnOrder_eq, HeaterPower.satAdd_eq]
  rfl

/-- Settles O33: the station faults with its order returned, and the settle timer expires once. -/
theorem aFaultedSampleStopsTheStation : Obligations.AFaultedSampleStopsTheStation := by
  unfold Obligations.AFaultedSampleStopsTheStation
  intro s hr
  have running (act : State → State) (h : (act s).retained = s.retained) :
      Host.Outcome.next (plantEvent s act) = (.next (act s).pump : Host.Outcome State Fault Refusal) :=
    congrArg _ (plantEvent_aside hr h)
  refine ⟨?_, fun set => ?_, fun none => ?_⟩
  · refine (running State.faultSample (by unfold State.faultSample; dsimp only; split <;> rfl)).trans ?_
    unfold State.faultSample
    dsimp only
    rw [State.modStation, faulted_eq]
    rfl
  · have act : s.settleExpires =
        { s with station := { s.station with settle := none } }.raise .weigh .settleTimeout :=
      if_pos (Option.isSome_iff_ne_none.mpr set)
    refine (running State.settleExpires (by rw [act]; rfl)).trans ?_
    rw [act]
  · have act : s.settleExpires = s := if_neg (by simp [none])
    refine (running State.settleExpires (by rw [act])).trans ?_
    rw [act]

end Sys2Proof.Machine.ChargeWeighing

/-!
PROOF. A good sample in each state of the station but SETTLING's capture (O30, O31).
-/

namespace Sys2Proof.Machine.ChargeWeighing

/-! ## The window after a sample (R43 to R45) -/

/-- The entry of a net count: its weight held at the capacity on either side, OVER only above it (R43). -/
theorem entryOf_eq (net : Int) (gain capacity : Nat) :
    entryOf net gain capacity =
      ⟨net, max (-(capacity : Int)) (min (capacity : Int) ((net * (gain : Int) + 32768) / 65536)),
        decide ((capacity : Int) < (net * (gain : Int) + 32768) / 65536)⟩ := by
  unfold entryOf weightOf
  dsimp only
  generalize (net * (gain : Int) + 32768) / 65536 = w
  split
  · rw [Entry.mk.injEq]
    exact ⟨rfl, by omega, by simpa⟩
  · split <;> rw [Entry.mk.injEq] <;> exact ⟨rfl, by omega, by simp; omega⟩

theorem pushLast_eq {α : Type} (k : Nat) (xs : List α) (x : α) :
    pushLast (k + 1) xs x = (xs ++ [x]).drop (xs.length - k) := by
  rw [pushLast, Nat.add_sub_add_right]

/-- A window that holds no more than 8 has an average when it holds 8 (R44). -/
theorem avg_eq {w : Station} (h : w.window.length ≤ 8) :
    w.avg = if w.window.length = 8 then w.averages.getLast? else none := by
  unfold Station.avg
  by_cases full : w.window.length = 8
  · rw [if_neg (by omega), if_pos full]
  · rw [if_pos (by omega), if_neg full]

/-! ## What a sample does, by the station's state -/

section ByState

variable {s : State}

theorem onSample_unzeroed (h : s.station.state = .unzeroed) :
    s.onSample = s.autoZero s.image.settings.zeroRange := by rw [State.onSample, h]

theorem onSample_empty (h : s.station.state = .empty) :
    s.onSample = (if s.station.zeroDue then s.autoZero s.image.settings.autoZeroBand else s).takeCheck := by
  rw [State.onSample, h]

theorem onSample_waiting (h : s.station.state = .waiting) :
    s.onSample =
      if s.atThreshold then
        s.modStation fun w =>
          { w with state := .settling, settle := some (seconds s.image.settings.settleTimeout) }
      else s := by
  rw [State.onSample, h]

theorem onSample_settling (h : s.station.state = .settling) :
    s.onSample =
      if s.belowThreshold then s.modStation fun w => { w with state := .waiting, settle := none }
      else if s.scaleStable then s.capture
      else s := by
  rw [State.onSample, h]

theorem onSample_removal (h : s.station.state = .removal) :
    s.onSample =
      if s.scaleStable && s.belowThreshold then s.modStation fun w => { w with state := .empty } else s := by
  rw [State.onSample, h]

theorem onSample_fault (h : s.station.state = .fault) : s.onSample = s := by rw [State.onSample, h]

end ByState

/-- A good sample that changes nothing in Retained Memory. -/
theorem exec_goodSample {s u v : State} {count : Count} (hr : s.phase = .running) (hu : s.windowed count = u)
    (hv : u.onSample = v) (ha : v.retained = s.retained) : exec (.goodSample count) s = .next v.pump := by
  subst hu hv
  exact congrArg Host.Outcome.next (plantEvent_aside hr ha)

/-- Settles O30: the entry's weight and window, and the load and removal tests on the average. -/
theorem aGoodSampleEntersTheWindow : Obligations.AGoodSampleEntersTheWindow := by
  unfold Obligations.AGoodSampleEntersTheWindow
  intro s count hr net weight top entry window average averages steady station hw ha
  have entered : s.station.enter (entryOf net s.image.settings.gain s.image.settings.capacity) =
      { s.station with window := window, averages := averages } := by
    rw [Station.enter, entryOf_eq, pushLast_eq 7, pushLast_eq 24]
    rfl
  have few : window.length ≤ 8 := by
    simp only [window, List.length_drop, List.length_append, List.length_singleton]
    omega
  have stable : station.stableNow s.image.settings.stabilityBand = steady := by
    rw [Bool.eq_iff_iff, stableNow_iff]
    simp only [steady, Bool.and_eq_true, decide_eq_true_eq, List.all_eq_true, and_assoc]
    exact and_congr_left fun _ => ⟨fun h => Nat.le_antisymm few h, fun h => Nat.le_of_eq h.symm⟩
  have avg : station.avg = if window.length = 8 then some average else none := by
    rw [avg_eq few]
    split
    · next full =>
      have youngest := getLast?_enter_averages (w := s.station)
        (e := entryOf net s.image.settings.gain s.image.settings.capacity) (by rw [entered]; exact full)
      rw [entered] at youngest
      exact youngest
    · rfl
  let u : State := { s with station := station }
  have windowed : s.windowed count = u := by
    have joined : s.windowed count =
        { s with
          station :=
            { s.station.enter (entryOf net s.image.settings.gain s.image.settings.capacity) with
              stable := (s.station.enter (entryOf net s.image.settings.gain s.image.settings.capacity)).stableNow
                s.image.settings.stabilityBand } } := rfl
    rw [joined, entered]
    exact congrArg
      (fun b => { s with station := { s.station with window := window, averages := averages, stable := b } }) stable
  have heavy : u.atThreshold = true ↔
      window.length = 8 ∧ (s.image.settings.loadThreshold : Int) ≤ average := by
    have read : u.station.avg = _ := avg
    rw [State.atThreshold, read]
    by_cases full : window.length = 8
    · simp only [full, if_true, decide_eq_true_eq, true_and]; rfl
    · simp [full]
  have light (full : window.length = 8) : u.belowThreshold = true ↔
      average < (s.image.settings.loadThreshold : Int) := by
    have read : u.station.avg = _ := avg
    rw [State.belowThreshold, read, if_pos full]
    exact decide_eq_true_iff
  refine ⟨fun h => ?_, fun h => ?_, fun h => ?_, fun h full below => ?_, fun h full above unsteady => ?_⟩
  · exact exec_goodSample hr windowed (onSample_fault h) rfl
  · by_cases met : window.length = 8 ∧ (s.image.settings.loadThreshold : Int) ≤ average
    · rw [if_pos met]
      exact exec_goodSample hr windowed ((onSample_waiting (s := u) h).trans (if_pos (heavy.mpr met))) rfl
    · rw [if_neg met]
      exact exec_goodSample hr windowed ((onSample_waiting (s := u) h).trans (if_neg (mt heavy.mp met))) rfl
  · have removed : (u.scaleStable && u.belowThreshold) = true ↔
        steady = true ∧ average < (s.image.settings.loadThreshold : Int) := by
      have tested : u.scaleStable = steady := stable
      rw [Bool.and_eq_true, tested]
      refine and_congr_right fun yes => light ?_
      simp only [steady, Bool.and_eq_true, decide_eq_true_eq] at yes
      obtain ⟨⟨full, -⟩, -⟩ := yes
      exact full
    by_cases met : steady = true ∧ average < (s.image.settings.loadThreshold : Int)
    · rw [if_pos met]
      exact exec_goodSample hr windowed ((onSample_removal (s := u) h).trans (if_pos (removed.mpr met))) rfl
    · rw [if_neg met]
      exact exec_goodSample hr windowed ((onSample_removal (s := u) h).trans (if_neg (mt removed.mp met))) rfl
  · exact exec_goodSample hr windowed ((onSample_settling (s := u) h).trans (if_pos ((light full).mpr below))) rfl
  · have notLight : ¬ u.belowThreshold = true := fun below => by have := (light full).mp below; omega
    have notStable : ¬ u.scaleStable = true := by
      have tested : u.scaleStable = steady := stable
      rw [tested, unsteady]; exact Bool.false_ne_true
    exact exec_goodSample hr windowed
      ((onSample_settling (s := u) h).trans ((if_neg notLight).trans (if_neg notStable))) rfl

/-! ## An empty scale (R47, R48, R51, R53) -/

/-- The automatic zero: made when the scale is stable and its average within the range (R48, R51). -/
theorem autoZero_eq (s : State) (range : Nat) :
    s.autoZero range =
      if s.station.stableNow s.image.settings.stabilityBand = true ∧
          ∀ a, s.station.averages.getLast? = some a → a ≤ (range : Int) ∧ -(range : Int) ≤ a then
        s.zeroCapture
      else s := by
  refine if_congr (Bool.and_eq_true_iff.trans (and_congr_right fun stable => ?_)) rfl rfl
  obtain ⟨a, avg, last, -⟩ := avg_of_stableNow stable
  rw [avgWithin_iff avg, last]
  exact ⟨fun h b hb => Option.some.inj hb ▸ h, fun h => h a rfl⟩

/-- What a zero capture leaves alone, of what the take check reads. -/
theorem autoZero_frame (s : State) (range : Nat) :
    (s.autoZero range).station.queue = s.station.queue ∧ (s.autoZero range).heat = s.heat ∧
      (s.autoZero range).presses = s.presses ∧ (s.autoZero range).image = s.image ∧
      (s.autoZero range).retained = s.retained ∧
      (s.station.state = .empty → (s.autoZero range).station.state = .empty) := by
  unfold State.autoZero
  split
  · exact ⟨rfl, rfl, rfl, rfl, rfl, fun _ => rfl⟩
  · exact ⟨rfl, rfl, rfl, rfl, rfl, id⟩

theorem eligible_iff (s : State) (o : Order) :
    s.eligible o = true ↔ (s.pressHeat o.press).mode = .run ∧ (s.press o.press).tickets.length < 2 := by
  simp only [State.eligible, Bool.and_eq_true, decide_eq_true_eq]

theorem mayTake_iff (s : State) :
    s.mayTake = true ↔
      (s.station.zeroDue = true → s.station.postponements < 4) ∧
        s.image.openTable.length + s.image.ring.count < 1024 ∧ s.image.nextSerial ≠ none := by
  rw [State.mayTake, Bool.and_eq_true_iff, Bool.and_eq_true_iff, decide_eq_true_iff, and_assoc,
    Option.isSome_iff_ne_none]
  refine and_congr ?_ Iff.rfl
  cases s.station.zeroDue <;> simp

theorem takeCheck_none {s : State} (h : ¬ s.mayTake = true ∨ ∀ o ∈ s.station.queue, ¬ s.eligible o = true) :
    s.takeCheck = s := by
  unfold State.takeCheck
  split
  · next he =>
    obtain ⟨-, may⟩ := he
    have none := h.resolve_left (not_not.mpr may)
    rw [List.find?_eq_none.mpr none]
  · rfl

theorem takeCheck_first {s : State} {before after : List Order} {o : Order} (empty : s.station.state = .empty)
    (may : s.mayTake = true) (queue : s.station.queue = before ++ o :: after) (first : s.eligible o = true)
    (others : ∀ q ∈ before, ¬ s.eligible q = true) :
    s.takeCheck =
      { s with
        station :=
          { s.station with
            queue := before ++ after, current := some o, state := .waiting,
            postponements :=
              if s.station.zeroDue then s.station.postponements + 1 else s.station.postponements } } := by
  have found : s.station.queue.find? s.eligible = some o := by
    rw [queue, List.find?_append, List.find?_eq_none.mpr others, Option.none_or, List.find?_cons_of_pos first]
  have erased : s.station.queue.eraseP s.eligible = before ++ after := by
    rw [queue, List.eraseP_append_right _ others, List.eraseP_cons_of_pos first]
  rw [State.takeCheck, if_pos ⟨empty, may⟩, found]
  dsimp only
  rw [State.modStation, Station.take, erased]

/-- Settles O31: the automatic zero, then the take check on what it leaves. -/
theorem anEmptyScaleZeroesItselfAndTakesAnOrder : Obligations.AnEmptyScaleZeroesItselfAndTakesAnOrder := by
  unfold Obligations.AnEmptyScaleZeroesItselfAndTakesAnOrder
  intro s count u hr hu zeroed
  subst hu
  have auto (range : Nat) : (s.windowed count).autoZero range = zeroed range := by
    rw [autoZero_eq, zeroCapture_eq]
    rfl
  refine ⟨fun h => ?_, fun h => ?_⟩
  · obtain ⟨-, -, -, -, retained, -⟩ := autoZero_frame (s.windowed count) s.image.settings.zeroRange
    rw [auto] at retained
    exact exec_goodSample hr rfl ((onSample_unzeroed (s := s.windowed count) h).trans (auto _)) retained
  intro v eligible room
  have zeroing : v = if s.station.zeroDue then (s.windowed count).autoZero s.image.settings.autoZeroBand
      else s.windowed count := by
    rw [auto]
  have frame : v.station.queue = s.station.queue ∧ v.heat = s.heat ∧ v.presses = s.presses ∧ v.image = s.image ∧
      v.retained = s.retained ∧ v.station.state = .empty := by
    rw [zeroing]
    split
    · obtain ⟨queue, heat, presses, image, retained, empty⟩ :=
        autoZero_frame (s.windowed count) s.image.settings.autoZeroBand
      exact ⟨queue, heat, presses, image, retained, empty h⟩
    · exact ⟨rfl, rfl, rfl, rfl, rfl, h⟩
  have sampled : (s.windowed count).onSample = v.takeCheck := by
    rw [onSample_empty (s := s.windowed count) h, zeroing]
    rfl
  clear_value v
  obtain ⟨queue, heat, presses, image, retained, empty⟩ := frame
  have may : v.mayTake = true ↔ room := by
    rw [mayTake_iff, image]
  have eligible_eq (o : Order) : v.eligible o = true ↔ eligible o := by
    rw [eligible_iff, State.pressHeat, State.press, heat, presses]
    rfl
  refine ⟨fun none => ?_, fun before after o roomy queued first others => ?_⟩
  · have unchanged : v.takeCheck = v := takeCheck_none
      (none.imp (mt may.mp) fun none o ho => mt (eligible_eq o).mp (none o (queue ▸ ho)))
    exact exec_goodSample hr rfl (sampled.trans unchanged) retained
  · have taken := takeCheck_first empty (may.mpr roomy) (queue.trans queued) ((eligible_eq o).mpr first)
      fun q hq => mt (eligible_eq q).mp (others q hq)
    exact exec_goodSample hr rfl (sampled.trans taken) retained

end Sys2Proof.Machine.ChargeWeighing

/-!
PROOF. The capture of a steady charge (O32).
-/

namespace Sys2Proof.Machine.ChargeWeighing

/-! ## The pending sets (R196) -/

/-- Raising a kind on a source adds it there and nowhere else. -/
theorem mem_raise (s : State) (src : Source) (j : EventKind) (i : Fin 6) (k : EventKind) :
    k ∈ (s.raise src j).link.pending.get i ↔ k ∈ s.link.pending.get i ∨ i = src.index ∧ k = j := by
  rw [State.raise_link_pending, Tab.get_modify]
  split
  · next hi => subst hi; rw [mem_addKind]; simp [or_comm]
  · next hi => simp [hi]

@[simp] theorem pump_pending_sets (s : State) : s.pump.link.pending = s.link.pending := by
  unfold State.pump
  split
  · obtain ⟨-, -, -, -, pending, -⟩ := Link.startFrame_frame s.link
    exact pending
  · rfl

/-- After the HISTORY_HIGH test the crossing state is RAISED exactly while the records reach the warning (R133). -/
theorem historyTest_raised (s : State) :
    s.historyTest.historyRaised = true ↔ s.image.settings.historyWarning ≤ s.image.recordCount := by
  unfold State.historyTest
  split
  · split <;> simp_all
  · simp_all

theorem mem_historyTest (s : State) (i : Fin 6) (k : EventKind) :
    k ∈ s.historyTest.link.pending.get i ↔ k ∈ s.link.pending.get i ∨
      i = 5 ∧ k = .historyHigh ∧ s.historyTest.historyRaised = true ∧ s.historyRaised = false := by
  rw [historyTest_raised]
  unfold State.historyTest
  split
  · next reached =>
    split
    · next raised => simp [raised]
    · next armed =>
      rw [mem_raise]
      simp [reached, armed, Source.index]
  · next below => simp [below]

theorem mem_zeroObligation (s : State) (i : Fin 6) (k : EventKind) :
    k ∈ s.zeroObligation.link.pending.get i ↔ k ∈ s.link.pending.get i ∨
      i = 4 ∧ k = .zeroDue ∧ s.zeroObligation.station.zeroDue = true ∧ s.station.zeroDue = false := by
  rw [zeroObligation_station]
  unfold State.zeroObligation
  split
  · next h =>
    simp only [Bool.and_eq_true, Bool.not_eq_true', decide_eq_true_eq] at h
    obtain ⟨clear, reached⟩ := h
    rw [mem_raise]
    simp [clear, reached, Source.index]
  · next h =>
    cases hz : s.station.zeroDue <;> simp_all

/-! ## Judging (R58 to R60) -/

theorem deviationOf_eq (w : Int) (nominal : Nat) :
    deviationOf w nominal =
      max (-1000) (min 1000 ((2 * 1000 * (w - nominal) + nominal) / (2 * nominal))) :=
  HeaterPower.clamp_eq _ _ _ (by decide)

theorem accepts_iff (w : Station) (weight : Int) (r : Recipe) :
    w.accepts weight r = true ↔
      (weight - r.nominal).natAbs * 1000 ≤ r.tolerance * r.nominal ∧ ∀ e ∈ w.window, e.isOver = false := by
  simp [Station.accepts, withinTolerance]

theorem mem_judgeCharge (s : State) (q : Record) (r : Recipe) (i : Fin 6) (k : EventKind) :
    k ∈ (s.judgeCharge q r).link.pending.get i ↔ k ∈ s.link.pending.get i ∨
      i = 4 ∧ k = .chargeAccepted ∧ s.station.accepts q.weight r = true ∨
      i = 4 ∧ k = .chargeRejected ∧ ¬ s.station.accepts q.weight r = true := by
  unfold State.judgeCharge
  split
  · next good =>
    refine (mem_raise ..).trans ?_
    simp only [good, and_true, not_true_eq_false, and_false, or_false]
    rfl
  · next bad =>
    refine (mem_raise ..).trans ?_
    simp only [bad, Bool.false_eq_true, and_false, not_false_eq_true, and_true, false_or]
    rfl

/-- An accepted charge: an open record and a ticket (R59, R74, R124). -/
theorem judgeCharge_of_accepted {s : State} {q : Record} {r : Recipe} (h : s.station.accepts q.weight r = true) :
    s.judgeCharge q r = s.acceptCharge q r.potLife := if_pos h

/-- A rejected charge: a record closed at once (R60, R125). -/
theorem judgeCharge_of_rejected {s : State} {q : Record} {r : Recipe} (h : ¬ s.station.accepts q.weight r = true) :
    s.judgeCharge q r = s.rejectCharge q r.nominal := if_neg h

theorem judgeCharge_settings (s : State) (q : Record) (r : Recipe) :
    (s.judgeCharge q r).image.settings = s.image.settings ∧ (s.judgeCharge q r).image.slots = s.image.slots ∧
      (s.judgeCharge q r).image.assigned = s.image.assigned := by
  unfold State.judgeCharge
  split <;> exact ⟨rfl, rfl, rfl⟩

/-- The youngest record of a ring just appended to. -/
theorem record_append_last (r : Ring) (q : Record) : (r.append q).record r.count = some q := by
  rw [Ring.record, if_pos (by rw [Ring.count_append]; exact Nat.lt_succ_self _)]
  exact readPlace_writePlace ..

/-- A reject of either kind counts on the same counter (R130). -/
theorem bumpFor_reject (c : Counters) (light : Prop) [Decidable light] :
    c.bumpFor (if light then .rejectLight else .rejectHeavy) = { c with rejects := c.rejects.bump } := by
  split <;> rfl

theorem mem_addCaptured (tag : Byte) (set : List Nat) (n : Nat) :
    n ∈ addCaptured tag set ↔ n < 256 ∧ (n = tag.toNat ∨ n ∈ set) := by
  simp [addCaptured]

/-! ## The capture (R50, R61, R133) -/

section Captured

variable {s : State} {o : Order} {slot : Fin 16} {r : Recipe} {serial : Nat} {w : Int}

/-- A capture judges the charge, ends the order, and tests the zero obligation and the history. -/
theorem capture_steps (hf : s.captureFigures = some (o, slot, r, serial, w)) :
    s.capture =
      (((s.judgeCharge (newRecord serial o slot r w s.clock.stamp) r).modStation fun x =>
        x.afterCapture o.tag).zeroObligation).historyTest := by
  rw [State.capture, hf]

theorem capture_raised (hf : s.captureFigures = some (o, slot, r, serial, w)) :
    s.capture.historyRaised = true ↔ s.image.settings.historyWarning ≤ s.image.recordCount + 1 := by
  obtain ⟨count, -, -⟩ := judgeCharge_image s (newRecord serial o slot r w s.clock.stamp) r
  obtain ⟨settings, -, -⟩ := judgeCharge_settings s (newRecord serial o slot r w s.clock.stamp) r
  rw [capture_steps hf, historyTest_raised, zeroObligation_eq]
  dsimp only
  rw [State.modStation_image, count, settings]

/-- What a capture raises, and nothing else. -/
theorem mem_capture (hf : s.captureFigures = some (o, slot, r, serial, w)) (i : Fin 6) (k : EventKind) :
    k ∈ s.capture.link.pending.get i ↔ k ∈ s.link.pending.get i ∨
      (i = 4 ∧ k = .chargeAccepted ∧ s.station.accepts w r = true) ∨
      (i = 4 ∧ k = .chargeRejected ∧ ¬ s.station.accepts w r = true) ∨
      (i = 4 ∧ k = .zeroDue ∧ s.capture.station.zeroDue = true ∧ s.station.zeroDue = false) ∨
      (i = 5 ∧ k = .historyHigh ∧ s.capture.historyRaised = true ∧ s.historyRaised = false) := by
  have steps := capture_steps hf
  have judged := mem_judgeCharge s (newRecord serial o slot r w s.clock.stamp) r i k
  have eq := judgeCharge_eq s (newRecord serial o slot r w s.clock.stamp) r
  generalize s.judgeCharge (newRecord serial o slot r w s.clock.stamp) r = j at steps judged eq
  have due : (j.modStation fun x => x.afterCapture o.tag).station.zeroDue = s.station.zeroDue := by rw [eq]; rfl
  have raised : (j.modStation fun x => x.afterCapture o.tag).zeroObligation.historyRaised = s.historyRaised := by
    rw [zeroObligation_eq, eq]; rfl
  rw [steps, mem_historyTest, mem_zeroObligation, State.modStation_link, judged, due, raised,
    State.historyTest_station, or_assoc, or_assoc, or_assoc]
  rfl

end Captured

/-- A sample that captures: what it leaves, its one change counted (R146). -/
theorem exec_capture {s : State} {count : Count} {o : Order} {slot : Fin 16} {r : Recipe} {serial : Nat} {w : Int}
    (hr : s.phase = .running) (settling : s.station.state = .settling)
    (stable : (s.windowed count).station.stableNow s.image.settings.stabilityBand = true)
    (heavy : (s.image.settings.loadThreshold : Int) ≤ w)
    (hf : (s.windowed count).captureFigures = some (o, slot, r, serial, w)) :
    exec (.goodSample count) s = .next (s.windowed count).capture.pump := by
  obtain ⟨-, -, -, -, avg⟩ := (captureFigures_iff ..).mp hf
  have notLight : ¬ (s.windowed count).belowThreshold = true := by
    rw [State.belowThreshold, avg]
    exact fun light => Int.not_lt.mpr heavy (of_decide_eq_true light)
  have captured : (s.windowed count).onSample = (s.windowed count).capture :=
    (onSample_settling (s := s.windowed count) settling).trans ((if_neg notLight).trans (if_pos stable))
  refine congrArg Host.Outcome.next ?_
  rw [plantEvent, if_pos hr, captured, oneChange_of (.inr ?_)]
  rw [capture_eq hf]
  rfl

/-- Settles O32: the fields of `capture_eq`, with the judgement in its two cases. -/
theorem aSteadyChargeIsCaptured : Obligations.ASteadyChargeIsCaptured := by
  unfold Obligations.ASteadyChargeIsCaptured
  intro s u count o slot r serial w hr settling hu stable last heavy current assigned recipe nextSerial deviation q
    next good
  subst hu
  have hf : (s.windowed count).captureFigures = some (o, slot, r, serial, w) := by
    obtain ⟨a, avg, youngest, -⟩ := avg_of_stableNow stable
    obtain rfl : a = w := Option.some.inj (youngest.symm.trans last)
    exact (captureFigures_iff ..).mpr ⟨current, assigned, recipe, nextSerial, avg⟩
  have record : newRecord serial o slot r w (s.windowed count).clock.stamp = q := by
    rw [newRecord, deviationOf_eq]
    rfl
  have accepted : (s.windowed count).station.accepts w r = true ↔ good := accepts_iff ..
  have eq := capture_eq hf
  have raised := capture_raised hf
  have pending := mem_capture hf
  have ran := exec_capture hr settling stable heavy hf
  have station := congrArg State.station eq
  rw [record, HeaterPower.satAdd_eq] at eq station
  rw [accepted, station] at pending
  have whole := (State.pump_eq _).trans (congrArg (fun x => { x with link := (s.windowed count).capture.pump.link }) eq)
  rw [← pump_pending_sets] at pending
  obtain ⟨-, nextSerial', -⟩ := judgeCharge_image (s.windowed count) q r
  obtain ⟨settings, slots, assigned'⟩ := judgeCharge_settings (s.windowed count) q r
  have good_eq (h : good) := judgeCharge_of_accepted (q := q) (accepted.mpr h)
  have bad_eq (h : ¬ good) := judgeCharge_of_rejected (q := q) (mt accepted.mp h)
  generalize (s.windowed count).judgeCharge q r = j at *
  refine ⟨_, ran.trans (congrArg _ whole), rfl, rfl, rfl, rfl, rfl, rfl, rfl, rfl, rfl, mem_addCaptured _ _,
    HeaterPower.satAdd_eq .., rfl, nextSerial', rfl, fun h => ?_, fun h => ?_, raised, pending, rfl, rfl, rfl, settings,
    slots, assigned'⟩
  · have e := good_eq h
    subst e
    exact ⟨rfl, rfl, rfl, State.press_modPress _ _ _, fun p hp => State.press_modPress_other _ hp _⟩
  · have e := bad_eq h
    subst e
    exact ⟨rfl, rfl, rfl, rfl, record_append_last ..,
      fun room k hk => (Ring.record_append room _ k).trans (if_pos hk),
      congrArg (s.image.counters.set o.press) (bumpFor_reject ..)⟩

end Sys2Proof.Machine.ChargeWeighing

/-!
PROOF. The rules that the statements about the press cycle use: tables with one entry changed twice, writes into the
bound part's record, and acts that make the same changes whatever the change generation is.
-/

namespace Sys2Proof.Machine.PressCycle

open ChargeWeighing

/-! ## One entry of a table changed twice, or not at all -/

@[simp] theorem set_set {α : Type} {n : Nat} (t : Tab α n) (i : Fin n) (a b : α) : (t.set i a).set i b = t.set i b :=
  Tab.ext_get fun j => by rw [Tab.get_set, Tab.get_set, Tab.get_set]; split <;> rfl

@[simp] theorem set_get {α : Type} {n : Nat} (t : Tab α n) (i : Fin n) : t.set i (t.get i) = t :=
  Tab.ext_get fun j => by
    rw [Tab.get_set]
    split
    · next h => rw [h]
    · rfl

/-- An update that leaves its entry as it is leaves the table as it is. -/
theorem modify_same {α : Type} {n : Nat} {t : Tab α n} {i : Fin n} {f : α → α} (h : f (t.get i) = t.get i) :
    t.modify i f = t := by
  rw [Tab.modify, h, set_get]

theorem modPress_eq (s : State) (p : Fin 4) (f : Press → Press) :
    s.modPress p f = { s with presses := s.presses.set p (f (s.press p)) } := rfl

theorem modPress_modPress (s : State) (p : Fin 4) (f g : Press → Press) :
    (s.modPress p f).modPress p g = s.modPress p fun x => g (f x) := by
  unfold State.modPress Tab.modify
  simp

/-! ## The bound part's record (R122, R126) -/

theorem writeBound_bound {s : State} {p : Fin 4} {b : Bound} (h : (s.press p).bound = some b)
    (f : OpenRecord → OpenRecord) : s.writeBound p f = s.writeOpen b.serial f := by
  rw [State.writeBound, h]

theorem writeBound_unbound {s : State} {p : Fin 4} (h : (s.press p).bound = none) (f : OpenRecord → OpenRecord) :
    s.writeBound p f = s := by
  rw [State.writeBound, h]

theorem closeBound_bound {s : State} {p : Fin 4} {b : Bound} (h : (s.press p).bound = some b) (d : Disposition)
    (c : Option PressFault) :
    s.closeBound p d c = (s.closeRecord b.serial d c).modPress p fun x => { x with bound := none } := by
  rw [State.closeBound, h]

theorem closeBound_unbound {s : State} {p : Fin 4} (h : (s.press p).bound = none) (d : Disposition)
    (c : Option PressFault) : s.closeBound p d c = s := by
  rw [State.closeBound, h]

/-- A closing is one change of the image, or none when there is no such record. -/
theorem generation_closeRecord (s : State) (serial : Nat) (d : Disposition) (c : Option PressFault) :
    (s.closeRecord serial d c).retained.generation = s.retained.generation ∨
      (s.closeRecord serial d c).retained.generation = nextGeneration s.retained.generation := by
  unfold State.closeRecord
  split
  · exact .inl rfl
  · exact .inr rfl

theorem link_closeRecord (s : State) (serial : Nat) (d : Disposition) (c : Option PressFault) :
    (s.closeRecord serial d c).link = s.link := by
  rw [(RecordOnly.closeRecord s serial d c).eq]

theorem phase_closeRecord (s : State) (serial : Nat) (d : Disposition) (c : Option PressFault) :
    (s.closeRecord serial d c).phase = s.phase := by
  rw [(RecordOnly.closeRecord s serial d c).eq]

theorem recipeFigure_eq {s : State} {p : Fin 4} {r : Recipe} (h : s.recipeOf p = some r) (f : Recipe → Nat) :
    s.recipeFigure p f = f r := by
  rw [State.recipeFigure, h]

/-! ## The verdict (R87, R96, R114) -/

/-- The overcure factor that a verdict of press `p` is fixed with: its recipe's. -/
def overcureOf (s : State) (p : Fin 4) : Nat :=
  match s.recipeOf p with
  | some r => r.overcure
  | none => 0

theorem overcureOf_eq {s : State} {p : Fin 4} {r : Recipe} (h : s.recipeOf p = some r) :
    overcureOf s p = r.overcure := by
  rw [overcureOf, h]

/-- The verdict that ends the cure of press `p` now. -/
def verdictNow (s : State) (p : Fin 4) : Verdict := (s.press p).cure.verdictFor (overcureOf s p)

theorem fixVerdict_eq (s : State) (p : Fin 4) :
    s.fixVerdict p =
      (s.modPress p fun x => { x with cure := { x.cure with verdict := some (verdictNow s p) } }).writeBound p
        fun o => o.onCure fun u => { u with verdict := some (verdictNow s p) } := rfl

theorem leaveCuring_curing {s : State} {p : Fin 4} (h : (s.press p).state = .curing) :
    s.leaveCuring p = (s.setOpenMark p).fixVerdict p := if_pos h

theorem leaveCuring_other {s : State} {p : Fin 4} (h : (s.press p).state ≠ .curing) : s.leaveCuring p = s := if_neg h

/-! ## The condition a press waits for, state by state (R71) -/

section Condition

variable {s : State} {p : Fin 4}

theorem condition_closing (h : (s.press p).state = .closing) :
    s.pressCondition p =
      if (s.inputs.presses.get p).closedLimit && (s.inputs.presses.get p).tonnageOk then some (s.enterCuring p)
      else none := by
  simp only [State.pressCondition, h]

theorem condition_curing (h : (s.press p).state = .curing) :
    s.pressCondition p =
      if (s.inputs.presses.get p).closedLimit && (s.inputs.presses.get p).tonnageOk then
        if (s.press p).dip then some (s.modPress p fun y => { y with dip := false }) else none
      else if (s.press p).dip then none else some (s.beginDip p) := by
  simp only [State.pressCondition, h]

theorem condition_opening (h : (s.press p).state = .opening) :
    s.pressCondition p = if (s.inputs.presses.get p).openLimit then some (s.openLimitReached p) else none := by
  simp only [State.pressCondition, h]

theorem condition_strokeOut {k : Nat} (h : (s.press p).state = .ejecting)
    (hk : (s.press p).stroke = some ⟨k, .out⟩) :
    s.pressCondition p = if (s.inputs.presses.get p).ejectOut then some (s.strokeBack p k) else none := by
  simp only [State.pressCondition, h, hk]

theorem condition_strokeBack {k : Nat} (h : (s.press p).state = .ejecting)
    (hk : (s.press p).stroke = some ⟨k, .back⟩) :
    s.pressCondition p = if (s.inputs.presses.get p).ejectHome then some (s.endStroke p k) else none := by
  simp only [State.pressCondition, h, hk]

theorem condition_noStroke (h : (s.press p).state = .ejecting) (hk : (s.press p).stroke = none) :
    s.pressCondition p = none := by
  simp only [State.pressCondition, h, hk]

/-- The states in which a press should stand still with its mould open (R95). -/
theorem condition_still (h : (s.press p).state ∈ [PressState.idle, .loaded, .unload]) :
    s.pressCondition p = if (s.inputs.presses.get p).openLimit then none else some (s.enterFault p .drift) := by
  simp only [List.mem_cons, List.not_mem_nil, or_false] at h
  rcases h with h | h | h <;> simp only [State.pressCondition, h]

theorem condition_fault (h : (s.press p).state = .fault) : s.pressCondition p = none := by
  simp only [State.pressCondition, h]

theorem settled_none (h : s.pressCondition p = none) : s.settled p = s := by
  rw [State.settled, State.settlePress, h]

theorem settlePress_some {t : State} (n : Nat) (h : s.pressCondition p = some t) :
    State.settlePress (n + 1) s p = State.settlePress n t p := by
  rw [State.settlePress, h]

theorem settlePress_none (n : Nat) (h : s.pressCondition p = none) : State.settlePress n s p = s := by
  cases n with
  | zero => rfl
  | succ n => rw [State.settlePress, h]

/-- One condition holds, and none after it. -/
theorem settled_once {t : State} (h : s.pressCondition p = some t) (ht : t.pressCondition p = none) :
    s.settled p = t := by
  rw [State.settled, settlePress_some 7 h, settlePress_none 7 ht]

end Condition

/-! ## The end of a stroke and of opening, branch by branch (R89, R92) -/

section Branches

variable {s : State} {p : Fin 4} {k : Nat}

theorem openLimitReached_unload (h : s.recipeFigure p Recipe.demouldTries = 0) :
    s.openLimitReached p =
      (s.modPress p fun x =>
        { x with openTimer := none, minOpen := startTimer (s.recipeFigure p Recipe.minOpen) }).enterUnload p := by
  unfold State.openLimitReached
  exact if_pos h

theorem openLimitReached_stroke (h : s.recipeFigure p Recipe.demouldTries ≠ 0) :
    s.openLimitReached p =
      (s.modPress p fun x =>
        { x with openTimer := none, minOpen := startTimer (s.recipeFigure p Recipe.minOpen) }).beginStroke p 1 := by
  unfold State.openLimitReached
  exact if_neg h

theorem endStroke_free (h : (s.inputs.presses.get p).partFree = true) :
    s.endStroke p k =
      ((s.modPress p fun x => { x with strokeTimer := none }).writeDemould p k true).enterUnload p := by
  unfold State.endStroke
  exact if_pos h

theorem endStroke_again (h : (s.inputs.presses.get p).partFree = false)
    (hk : k < s.recipeFigure p Recipe.demouldTries) :
    s.endStroke p k = (s.modPress p fun x => { x with strokeTimer := none }).beginStroke p (k + 1) := by
  unfold State.endStroke
  rw [h]
  exact if_pos hk

theorem endStroke_stuck (h : (s.inputs.presses.get p).partFree = false)
    (hk : ¬ k < s.recipeFigure p Recipe.demouldTries) :
    s.endStroke p k =
      (((s.modPress p fun x => { x with strokeTimer := none }).writeDemould p k false).bumpStuck p).enterFault p
        .stuckPart := by
  unfold State.endStroke
  rw [h]
  exact if_neg hk

end Branches

/-! ## Entering FAULT (R96) -/

theorem enterFault_steps (s : State) (p : Fin 4) (c : PressFault) :
    s.enterFault p c =
      (((s.leaveCuring p).modPress p fun x =>
        { x.enter .fault none with
          closeTimer := none, openTimer := none, strokeTimer := none, cause := some c }).closeBound p .scrapFault
        (some c)).raise (.press p) .pressFault := rfl

theorem state_enterFault (s : State) (p : Fin 4) (c : PressFault) : ((s.enterFault p c).press p).state = .fault := by
  obtain ⟨cure, press⟩ := press_enterFault s p c
  rw [press]
  rfl

theorem cause_enterFault (s : State) (p : Fin 4) (c : PressFault) : ((s.enterFault p c).press p).cause = some c := by
  obtain ⟨cure, press⟩ := press_enterFault s p c
  rw [press]

/-- A press in FAULT waits for no condition. -/
theorem settled_enterFault {s t : State} {p : Fin 4} {c : PressFault}
    (h : s.pressCondition p = some (t.enterFault p c)) :
    s.settled p = t.enterFault p c := settled_once h (condition_fault (state_enterFault t p c))

/-! ## The same changes whatever the generation is (R146) -/

/-- The state with this change generation. -/
def atGeneration (s : State) (g : Nat) : State := { s with retained := { s.retained with generation := g } }

theorem iterate_nextGeneration (n g : Nat) :
    nextGeneration^[n] g = if n = 0 then g else (g + n) % 4294967296 := by
  induction n with
  | zero => rfl
  | succ n ih =>
    rw [Function.iterate_succ_apply', ih, nextGeneration]
    split <;> simp_all
    omega

/-- The act makes at most `k` changes of the image, and as many, with the same effect, whatever the generation is. -/
def Changes (k : Nat) (act : State → State) (s : State) : Prop :=
  ∃ n ≤ k, ∀ g, act (atGeneration s g) = atGeneration (act s) (nextGeneration^[n] g)

namespace Changes

variable {k j : Nat} {act next : State → State} {s : State} {p : Fin 4}

theorem none (h : ∀ g, act (atGeneration s g) = atGeneration (act s) g) : Changes 0 act s := ⟨0, Nat.le_refl _, h⟩

theorem one (h : ∀ g, act (atGeneration s g) = atGeneration (act s) (nextGeneration g)) : Changes 1 act s :=
  ⟨1, Nat.le_refl _, h⟩

theorem mono (h : Changes k act s) (hk : k ≤ j) : Changes j act s := by
  obtain ⟨n, hn, h⟩ := h
  exact ⟨n, hn.trans hk, h⟩

theorem andThen (h : Changes k act s) (h' : Changes j next (act s)) : Changes (k + j) (fun u => next (act u)) s := by
  obtain ⟨n, hn, h⟩ := h
  obtain ⟨m, hm, h'⟩ := h'
  refine ⟨m + n, by omega, fun g => ?_⟩
  dsimp only
  rw [h, h', Function.iterate_add_apply]

theorem generation (h : Changes k act s) :
    ∃ n ≤ k, (act s).retained.generation = nextGeneration^[n] s.retained.generation := by
  obtain ⟨n, hn, h⟩ := h
  exact ⟨n, hn, congrArg (fun t : State => t.retained.generation) (h s.retained.generation)⟩

/-- Two acts that agree on the state at every generation. -/
theorem congr (h : Changes k act s) (e : ∀ g, next (atGeneration s g) = act (atGeneration s g)) :
    Changes k next s := by
  obtain ⟨n, hn, h⟩ := h
  have here : next s = act s := e s.retained.generation
  exact ⟨n, hn, fun g => by rw [e, h, here]⟩

theorem modPress (s : State) (p : Fin 4) (f : Press → Press) : Changes 0 (fun u => u.modPress p f) s :=
  none fun _ => rfl

theorem raise (s : State) (src : Source) (k : EventKind) : Changes 0 (fun u => u.raise src k) s := none fun _ => rfl

theorem bumpStuck (s : State) (p : Fin 4) : Changes 1 (fun u => u.bumpStuck p) s := one fun _ => rfl

theorem writeBound (s : State) (p : Fin 4) (f : OpenRecord → OpenRecord) :
    Changes 1 (fun u => u.writeBound p f) s := by
  cases h : (s.press p).bound with
  | none =>
    have unbound : Changes 0 (fun u => u.writeBound p f) s :=
      congr (none (act := id) fun _ => rfl) fun g => writeBound_unbound (s := atGeneration s g) h f
    exact unbound.mono (Nat.zero_le 1)
  | some b =>
    exact congr (one (act := fun u => u.writeOpen b.serial f) fun _ => rfl) fun g =>
      writeBound_bound (s := atGeneration s g) h f

theorem closeRecord (s : State) (serial : Nat) (d : Disposition) (c : Option PressFault) :
    Changes 1 (fun u => u.closeRecord serial d c) s := by
  cases h : s.image.openRecord serial with
  | none =>
    refine (congr (none (act := id) fun _ => rfl) fun g => ?_).mono (Nat.zero_le 1)
    have hg : (atGeneration s g).image.openRecord serial = .none := h
    dsimp only [id]
    rw [State.closeRecord, hg]
  | some o =>
    refine one fun g => ?_
    have hg : (atGeneration s g).image.openRecord serial = some o := h
    rw [State.closeRecord, hg, State.closeRecord, h]
    rfl

theorem closeBound (s : State) (p : Fin 4) (d : Disposition) (c : Option PressFault) :
    Changes 1 (fun u => u.closeBound p d c) s := by
  cases h : (s.press p).bound with
  | none =>
    exact (congr (none (act := id) fun _ => rfl) fun g => closeBound_unbound (s := atGeneration s g) h d c).mono
      (Nat.zero_le 1)
  | some b =>
    exact congr ((closeRecord s b.serial d c).andThen (modPress _ p fun x => { x with bound := .none })) fun g =>
      closeBound_bound (s := atGeneration s g) h d c

theorem fixVerdict (s : State) (p : Fin 4) : Changes 1 (fun u => u.fixVerdict p) s :=
  (modPress s p fun x => { x with cure := { x.cure with verdict := some (verdictNow s p) } }).andThen
    (writeBound _ p fun o => o.onCure fun u => { u with verdict := some (verdictNow s p) })

theorem leaveCuring (s : State) (p : Fin 4) : Changes 1 (fun u => u.leaveCuring p) s := by
  by_cases h : (s.press p).state = .curing
  · have marked : Changes 0 (fun u => u.setOpenMark p) s := none fun _ => rfl
    exact congr (marked.andThen (fixVerdict _ p)) fun g => leaveCuring_curing (s := atGeneration s g) h
  · exact (congr (none (act := id) fun _ => rfl) fun g => leaveCuring_other (s := atGeneration s g) h).mono
      (Nat.zero_le 1)

theorem enterFault (s : State) (p : Fin 4) (c : PressFault) : Changes 2 (fun u => u.enterFault p c) s :=
  (((leaveCuring s p).andThen (modPress _ p _)).andThen (closeBound _ p _ _)).andThen (raise _ _ _)

theorem enterCuring (s : State) (p : Fin 4) : Changes 1 (fun u => u.enterCuring p) s :=
  have entered : Changes 0 (fun u => (u.modPress p fun x =>
      { x.enter .curing .none with closeTimer := .none, dip := false }).setCloseMark p) s := none fun _ => rfl
  entered.andThen (writeBound _ p fun o =>
    { o with record := { o.record with cure := some (newSummary s.clock.stamp (s.press p).cure.target) } })

theorem beginDip (s : State) (p : Fin 4) : Changes 1 (fun u => u.beginDip p) s :=
  ((modPress s p _).andThen (writeBound _ p _)).andThen (raise _ _ _)

theorem openLimitReached (s : State) (p : Fin 4) : Changes 0 (fun u => u.openLimitReached p) s := by
  refine none fun g => ?_
  have figure : (atGeneration s g).recipeFigure p Recipe.demouldTries = s.recipeFigure p Recipe.demouldTries := rfl
  unfold State.openLimitReached
  rw [figure]
  dsimp only
  split <;> rfl

theorem strokeBack (s : State) (p : Fin 4) (k : Nat) : Changes 0 (fun u => u.strokeBack p k) s := none fun _ => rfl

theorem endStroke (s : State) (p : Fin 4) (k : Nat) : Changes 4 (fun u => u.endStroke p k) s := by
  have written (free : Bool) : Changes 1 (fun u => (u.modPress p fun x =>
      { x with strokeTimer := .none }).writeDemould p k free) s := (modPress s p _).andThen (writeBound _ p _)
  cases free : (s.inputs.presses.get p).partFree with
  | true =>
    have unloaded := (written true).andThen (none (act := fun u => u.enterUnload p) fun _ => rfl)
    exact (congr unloaded fun g => endStroke_free (s := atGeneration s g) free).mono (by decide)
  | false =>
    by_cases more : k < s.recipeFigure p Recipe.demouldTries
    · have again :
          Changes 0 (fun u => (u.modPress p fun x => { x with strokeTimer := .none }).beginStroke p (k + 1)) s :=
        none fun _ => rfl
      exact (congr again fun g => endStroke_again (s := atGeneration s g) free more).mono (Nat.zero_le 4)
    · have stuck := ((written false).andThen (bumpStuck _ p)).andThen (enterFault _ p .stuckPart)
      exact congr stuck fun g => endStroke_stuck (s := atGeneration s g) free more

/-- The condition that a press waits for is the same at every generation, and so is what the press does on it. -/
def Waits (p : Fin 4) (s : State) : Prop :=
  ∃ n ≤ 4, ∀ g, (atGeneration s g).pressCondition p =
    (s.pressCondition p).map fun t => atGeneration t (nextGeneration^[n] g)

theorem waits_none (e : ∀ g, (atGeneration s g).pressCondition p = .none) : Waits p s := by
  have here : s.pressCondition p = .none := e s.retained.generation
  exact ⟨0, Nat.zero_le 4, fun g => by rw [e, here]; rfl⟩

theorem waits_some (h : Changes k act s) (hk : k ≤ 4)
    (e : ∀ g, (atGeneration s g).pressCondition p = some (act (atGeneration s g))) : Waits p s := by
  obtain ⟨n, hn, h⟩ := h
  have here : s.pressCondition p = some (act s) := e s.retained.generation
  exact ⟨n, hn.trans hk, fun g => by rw [e, here, h]; rfl⟩

theorem waits_still (h : (s.press p).state ∈ [PressState.idle, .loaded, .unload]) : Waits p s := by
  by_cases met : (s.inputs.presses.get p).openLimit = true
  · exact waits_none fun g => (condition_still (s := atGeneration s g) h).trans (if_pos met)
  · exact waits_some (enterFault s p .drift) (by decide) fun g =>
      (condition_still (s := atGeneration s g) h).trans (if_neg met)

theorem waits (s : State) (p : Fin 4) : Waits p s := by
  cases h : (s.press p).state with
  | idle => exact waits_still (by simp [h])
  | loaded => exact waits_still (by simp [h])
  | unload => exact waits_still (by simp [h])
  | fault => exact waits_none fun g => condition_fault (s := atGeneration s g) h
  | closing =>
    by_cases met : ((s.inputs.presses.get p).closedLimit && (s.inputs.presses.get p).tonnageOk) = true
    · exact waits_some (enterCuring s p) (by decide) fun g =>
        (condition_closing (s := atGeneration s g) h).trans (if_pos met)
    · exact waits_none fun g => (condition_closing (s := atGeneration s g) h).trans (if_neg met)
  | curing =>
    by_cases met : ((s.inputs.presses.get p).closedLimit && (s.inputs.presses.get p).tonnageOk) = true <;>
      by_cases dip : (s.press p).dip = true
    · exact waits_some (modPress s p fun y => { y with dip := false }) (by decide) fun g =>
        (condition_curing (s := atGeneration s g) h).trans ((if_pos met).trans (if_pos dip))
    · exact waits_none fun g => (condition_curing (s := atGeneration s g) h).trans ((if_pos met).trans (if_neg dip))
    · exact waits_none fun g => (condition_curing (s := atGeneration s g) h).trans ((if_neg met).trans (if_pos dip))
    · exact waits_some (beginDip s p) (by decide) fun g =>
        (condition_curing (s := atGeneration s g) h).trans ((if_neg met).trans (if_neg dip))
  | opening =>
    by_cases met : (s.inputs.presses.get p).openLimit = true
    · exact waits_some (openLimitReached s p) (by decide) fun g =>
        (condition_opening (s := atGeneration s g) h).trans (if_pos met)
    · exact waits_none fun g => (condition_opening (s := atGeneration s g) h).trans (if_neg met)
  | ejecting =>
    cases hk : (s.press p).stroke with
    | none => exact waits_none fun g => condition_noStroke (s := atGeneration s g) h hk
    | some stroke =>
      obtain ⟨k, phase⟩ := stroke
      cases phase with
      | out =>
        by_cases met : (s.inputs.presses.get p).ejectOut = true
        · exact waits_some (strokeBack s p k) (by decide) fun g =>
            (condition_strokeOut (s := atGeneration s g) h hk).trans (if_pos met)
        · exact waits_none fun g => (condition_strokeOut (s := atGeneration s g) h hk).trans (if_neg met)
      | back =>
        by_cases met : (s.inputs.presses.get p).ejectHome = true
        · exact waits_some (endStroke s p k) (Nat.le_refl 4) fun g =>
            (condition_strokeBack (s := atGeneration s g) h hk).trans (if_pos met)
        · exact waits_none fun g => (condition_strokeBack (s := atGeneration s g) h hk).trans (if_neg met)

theorem settlePress (n : Nat) (s : State) (p : Fin 4) : Changes (4 * n) (fun u => State.settlePress n u p) s := by
  induction n generalizing s with
  | zero => exact none fun _ => rfl
  | succ n ih =>
    obtain ⟨m, hm, condition⟩ := waits s p
    cases h : s.pressCondition p with
    | none =>
      refine (congr (none (act := id) fun _ => rfl) fun g => ?_).mono (Nat.zero_le _)
      exact settlePress_none (n + 1) (by rw [condition, h]; rfl)
    | some t =>
      obtain ⟨i, hi, rest⟩ := ih t
      refine ⟨i + m, by omega, fun g => ?_⟩
      dsimp only at rest ⊢
      have met : (atGeneration s g).pressCondition p = some (atGeneration t (nextGeneration^[m] g)) := by
        rw [condition, h]; rfl
      rw [settlePress_some n h, settlePress_some n met, rest, Function.iterate_add_apply]

theorem settled (s : State) (p : Fin 4) : Changes 32 (fun u => u.settled p) s := settlePress 8 s p

end Changes

/-- Once something has changed, one event is one change: how many writes it took does not show (R146). -/
theorem oneChange_atGeneration {s t : State} {g : Nat} (hg : g ≠ s.retained.generation)
    (ht : t.retained.generation ≠ s.retained.generation) : oneChange s (atGeneration t g) = oneChange s t := by
  have moved : (atGeneration t g).retained.generation ≠ s.retained.generation := hg
  rw [oneChange, if_neg moved, oneChange, if_neg ht]
  rfl

theorem iterate_nextGeneration_ne {n : Nat} (g : Nat) (h0 : 0 < n) (hn : n < 4294967296) :
    nextGeneration^[n] g ≠ g := by
  rw [iterate_nextGeneration, if_neg (by omega)]
  omega

/-- An act after a write, and the same act after two writes, make one change and the same one. -/
theorem oneChange_afterTwo {k : Nat} {act : State → State} {s t : State} (h : Changes k act t) (hk : k ≤ 32)
    (ht : t.retained.generation = nextGeneration s.retained.generation) :
    oneChange s (act (atGeneration t (nextGeneration (nextGeneration s.retained.generation)))) =
      oneChange s (act t) := by
  have moved := h.generation
  obtain ⟨n, hn, h⟩ := h
  rw [h]
  refine oneChange_atGeneration ?_ ?_
  · rw [← Function.iterate_succ_apply, ← Function.iterate_succ_apply]
    exact iterate_nextGeneration_ne _ (by omega) (by omega)
  · obtain ⟨m, hm, e⟩ := moved
    rw [e, ht, ← Function.iterate_succ_apply]
    exact iterate_nextGeneration_ne _ (by omega) (by omega)

end Sys2Proof.Machine.PressCycle

/-!
PROOF. The requests to a press: LOAD (O34), CLOSE (O35), OPEN and ABORT (O36).
-/

namespace Sys2Proof.Machine.PressCycle

open ChargeWeighing

/-! ## LOAD (R77, R78, R101, R102) -/

theorem checkLoad_state {s : State} {p : Fin 4} (h : (s.press p).state ≠ .idle ∨ (s.pressHeat p).mode ≠ .run)
    (serial : Nat) : s.checkLoad p serial = some .wrongState := by
  unfold State.checkLoad
  rcases h with h | h <;> simp [h]

/-- In IDLE with heat mode RUN the tickets decide (R77). -/
theorem checkLoad_tickets {s : State} {p : Fin 4} (idle : (s.press p).state = .idle)
    (run : (s.pressHeat p).mode = .run) (serial : Nat) :
    s.checkLoad p serial =
      if !(s.press p).tickets.any fun t => decide (t.serial = serial) then some .notFound
      else if (s.press p).tickets.head?.map Ticket.serial ≠ some serial then some .wrongTicket
      else none := by
  simp [State.checkLoad, idle, run]

/-- A LOAD that a check refuses. -/
theorem ownLoad_refused {s : State} {press : Byte} {p : Fin 4} (hp : press.toNat = p.val) {serial : Word} {st : Status}
    (h : s.checkLoad p serial.toNat = some st) : ownLoad press serial s = s.answer st [] := by
  rw [ownLoad, pressNo_eq hp]
  simp only [h]

/-- A LOAD taken with this ticket at the head of the queue. -/
theorem ownLoad_taken {s : State} {press : Byte} {p : Fin 4} (hp : press.toNat = p.val) {serial : Word}
    {head : Ticket} {rest : List Ticket} (h : s.checkLoad p serial.toNat = none)
    (queue : (s.press p).tickets = head :: rest) :
    ownLoad press serial s = (s.loadTicket p head).answer .ok [] := by
  rw [ownLoad, pressNo_eq hp]
  simp only [h, queue, List.head?_cons]

theorem targetFor_eq {s : State} {p : Fin 4} {serial : Nat} {o : OpenRecord} {r : Recipe}
    (ho : s.image.openRecord serial = some o) (hr : s.recipeOf p = some r) :
    s.targetFor p serial = adjustedTarget r.cureTarget o.record.weight.toNat r.nominal := by
  rw [State.targetFor, ho, hr]

/-- The load time is a change of the image only when the clock is SET (R78, R187). -/
theorem writeLoadTime_eq (s : State) (serial : Nat) :
    s.writeLoadTime serial =
      if s.clock.set then
        s.writeOpen serial fun o => { o with record := { o.record with loadTime := some s.clock.value } }
      else s := by
  unfold State.writeLoadTime Clock.stamp
  cases s.clock.set <;> rfl

/-- Settles O34: the checks of LOAD, and the ticket bound. -/
theorem loadBindsTheHeadTicket : Obligations.LoadBindsTheHeadTicket := by
  unfold Obligations.LoadBindsTheHeadTicket
  intro s tag press serial body h refused
  have refuse {st : Status} (e : ownLoad press serial s = s.answer st []) : refused st :=
    congrArg Host.Outcome.next (State.serve_answer h e)
  refine ⟨fun high => refuse ?_, fun p hp => ⟨fun state => refuse ?_, fun idle run => ⟨fun absent => refuse ?_,
    fun head rest queue other later => refuse ?_, fun head rest o r queue first found recipe => ?_⟩⟩⟩
  · rw [ownLoad, pressNo_none high]
  · exact ownLoad_refused hp (checkLoad_state state _)
  · refine ownLoad_refused hp ?_
    rw [checkLoad_tickets idle run]
    exact if_pos (by simpa using absent)
  · refine ownLoad_refused hp ?_
    have queued : (s.press p).tickets.any (fun t => decide (t.serial = serial.toNat)) = true := by
      obtain ⟨k, hk, e⟩ := later
      exact List.any_eq_true.mpr ⟨k, by simp [queue, hk], decide_eq_true e⟩
    rw [checkLoad_tickets idle run, queued, queue]
    simp [other]
  · have check : s.checkLoad p serial.toNat = none := by
      rw [checkLoad_tickets idle run, queue]
      simp [first]
    have target : s.targetFor p head.serial =
        (r.cureTarget * 16 * o.record.weight.toNat + r.nominal / 2) / r.nominal := by
      rw [first]
      exact targetFor_eq found recipe
    have loaded : s.loadTicket p head =
        { s with
          presses := s.presses.set p
            { (s.press p).enter .loaded none with
              tickets := (s.press p).tickets.tail, bound := some ⟨head.serial, head.tag, some head.pot⟩,
              cure := Cure.afterLoad (s.targetFor p head.serial) },
          image := (s.writeLoadTime head.serial).image,
          retained := (s.writeLoadTime head.serial).retained } := by
      rw [State.loadTicket, modPress_eq, press_of_records (RecordOnly.writeLoadTime ..),
        (RecordOnly.writeLoadTime s head.serial).eq]
    refine congrArg Host.Outcome.next ?_
    rw [State.serve_act h (ownLoad_taken hp check queue) (by rw [loaded]) (by rw [loaded]), loaded, target, queue,
      first, writeLoadTime_eq]
    cases set : s.clock.set
    · rw [oneChange_of (.inl (by simp))]
      simp only [Bool.false_eq_true, if_false]
      rfl
    · rw [oneChange_of (.inr (by simp; rfl))]
      simp only [if_true]
      rfl

/-! ## CLOSE (R79, R80) -/

theorem ownClose_refused {s : State} {press : Byte} {p : Fin 4} (hp : press.toNat = p.val) {st : Status}
    (h : s.checkClose p = some st) : ownClose press s = s.answer st [] := by
  rw [ownClose, pressNo_eq hp]
  simp only [h]

theorem ownClose_taken {s : State} {press : Byte} {p : Fin 4} (hp : press.toNat = p.val) (h : s.checkClose p = none) :
    ownClose press s = ((s.startClosing p).settled p).answer .ok [] := by
  rw [ownClose, pressNo_eq hp]
  simp only [h]

/-- Settling leaves the phase and the request in hand alone. -/
theorem settled_frame (s : State) (p : Fin 4) :
    (s.settled p).phase = s.phase ∧ (s.settled p).link.inHand = s.link.inHand := by
  have only := PressOnly.settled (p := p) s
  obtain ⟨-, -, inHand, -⟩ := only.line
  exact ⟨by rw [only.eq], inHand⟩

/-- A request whose owner starts the press moving and meets what holds already: one change, then the reply. -/
theorem serve_settled {s u : State} {p : Fin 4} {kind tag : Byte} {body : List Byte} (h : s.holds kind tag body)
    {own : State → State} (e : own s = (u.settled p).answer .ok []) (hp : u.phase = s.phase)
    (hi : u.link.inHand = s.link.inHand) :
    s.serve kind tag body own = (oneChange s (u.settled p)).repliedTo kind tag body .ok [] := by
  obtain ⟨phase, inHand⟩ := settled_frame u p
  exact State.serve_act h e (phase.trans hp) (inHand.trans hi)

/-- Settles O35: the checks of CLOSE, and the cycle started. -/
theorem closeStartsTheCycle : Obligations.CloseStartsTheCycle := by
  unfold Obligations.CloseStartsTheCycle
  intro s tag press h refused
  have refuse {st : Status} (e : ownClose press s = s.answer st []) : refused st :=
    congrArg Host.Outcome.next (State.serve_answer h e)
  refine ⟨fun high => refuse ?_, fun p hp => ⟨fun state => refuse (ownClose_refused hp ?_), fun loaded =>
    ⟨fun guard => refuse (ownClose_refused hp ?_), fun guard ready => refuse (ownClose_refused hp ?_),
      fun guard ready minOpen => refuse (ownClose_refused hp ?_), fun guard ready minOpen r recipe => ?_⟩⟩⟩
  · rw [ownClose, pressNo_none high]
  · simp [State.checkClose, state]
  · simp [State.checkClose, loaded, guard]
  · simp [State.checkClose, loaded, guard, ready]
  · simp [State.checkClose, loaded, guard, ready, Option.isSome_iff_ne_none, minOpen]
  intro c c' u
  have check : s.checkClose p = none := by simp [State.checkClose, loaded, guard, ready, minOpen]
  have started : s.startClosing p = u := by
    unfold State.startClosing
    rw [recipeFigure_eq recipe, modPress_eq, press_of_records (RecordOnly.bumpCycles ..)]
    have bumped : (s.image.counters.get p).cycles.bump = c' := rfl
    unfold State.bumpCycles
    rw [bumped]
    by_cases same : c' = c
    · have counters : s.image.counters.set p { s.image.counters.get p with cycles := c' } = s.image.counters := by
        rw [same]; exact set_get ..
      simp only [u, counters, if_pos same]
      rw [if_pos same]
      rfl
    · simp only [u, if_neg same]
      rw [if_neg same]
      rfl
  refine congrArg Host.Outcome.next (serve_settled h ?_ rfl rfl)
  rw [ownClose_taken hp check, started]

/-! ## OPEN and ABORT (R85, R87, R88, R114) -/

/-- Two writes into one record. -/
theorem map_writes (l : List OpenRecord) (serial : Nat) {f : OpenRecord → OpenRecord} (g : OpenRecord → OpenRecord)
    (hf : ∀ o, (f o).record.serial = o.record.serial) :
    (l.map fun o => if o.record.serial = serial then f o else o).map
        (fun o => if o.record.serial = serial then g o else o) =
      l.map fun o => if o.record.serial = serial then g (f o) else o := by
  rw [List.map_map]
  refine List.map_congr_left fun o _ => ?_
  by_cases h : o.record.serial = serial
  · simp [hf, h]
  · simp [h]

/-- What starting to open out of CURING leaves: the verdict in the press's figures and in its record (R87, R114). -/
theorem startToOpen_curing {s : State} {p : Fin 4} {r : Recipe} {b : Bound} (h : (s.press p).state = .curing)
    (recipe : s.recipeOf p = some r) (bound : (s.press p).bound = some b) :
    s.startToOpen p =
      { s with
        presses := s.presses.set p
          { (s.press p).enter .opening none with
            openTimer := some (seconds r.openTimeout), closeTimer := none,
            cure := { (s.press p).cure with verdict := some (verdictNow s p) } },
        heat := s.heat.modify p fun h => { h with profile := { h.profile with openMark := true } },
        image := { s.image with
          openTable := s.image.openTable.map fun o =>
            if o.record.serial = b.serial then o.onCure fun u => { u with verdict := some (verdictNow s p) } else o },
        retained := { s.retained with generation := nextGeneration s.retained.generation } } := by
  have marked : verdictNow (s.setOpenMark p) p = verdictNow s p := rfl
  have bound' : (((s.setOpenMark p).modPress p fun x =>
      { x with cure := { x.cure with verdict := some (verdictNow s p) } }).press p).bound = some b := by
    rw [State.press_modPress]
    exact bound
  unfold State.startToOpen
  rw [leaveCuring_curing h, fixVerdict_eq, marked, writeBound_bound bound', recipeFigure_eq recipe, modPress_eq,
    State.press, State.writeOpen, State.writeImage_presses, modPress_eq, Tab.get_set_same]
  simp only [set_set, State.writeImage]
  rfl

/-- What starting to open leaves out of any other state: no verdict and no mark (R87). -/
theorem startToOpen_other {s : State} {p : Fin 4} {r : Recipe} (h : (s.press p).state ≠ .curing)
    (recipe : s.recipeOf p = some r) :
    s.startToOpen p =
      { s with
        presses := s.presses.set p
          { (s.press p).enter .opening none with openTimer := some (seconds r.openTimeout), closeTimer := none } } := by
  unfold State.startToOpen
  rw [leaveCuring_other h, recipeFigure_eq recipe, modPress_eq]

/-- ABORT taken by a moving press: marked, and started to open (R88). -/
theorem exec_abort_moving {s : State} {tag press : Byte} {p : Fin 4} (hp : press.toNat = p.val)
    (h : s.holds 0x2B tag [press]) (state : (s.press p).state = .closing ∨ (s.press p).state = .curing) :
    exec (.abort tag press) s =
      .next ((oneChange s (((s.markAborted p).startToOpen p).settled p)).repliedTo 0x2B tag [press] .ok []) := by
  have only := (PressOnly.markAborted (p := p) s).trans (PressOnly.startToOpen (p := p) _)
  have own : ownAbort press s = (((s.markAborted p).startToOpen p).settled p).answer .ok [] := by
    rw [ownAbort, pressNo_eq hp]
    rcases state with state | state <;> simp only [state]
  obtain ⟨-, -, inHand, -⟩ := only.line
  exact congrArg Host.Outcome.next (serve_settled h own (by rw [only.eq]) inHand)

/-- Settles O36: OPEN and ABORT refused, and started with one write or with two. -/
theorem openAndAbortStartThePressOpening : Obligations.OpenAndAbortStartThePressOpening := by
  unfold Obligations.OpenAndAbortStartThePressOpening
  refine ⟨fun s tag press p hp => ⟨fun h state => ?_, fun h state => ?_⟩,
    fun s press p r b hp recipe bound => ?_⟩
  · refine congrArg Host.Outcome.next (State.serve_answer h ?_)
    rw [ownOpen, pressNo_eq hp]
    exact if_pos state
  · refine congrArg Host.Outcome.next (State.serve_answer h ?_)
    rw [ownAbort, pressNo_eq hp]
    simp only [List.mem_cons, List.not_mem_nil, or_false] at state
    rcases state with state | state | state | state | state <;> simp only [state]
  intro x verdict curing started
  have verdict_eq : verdictNow s p = verdict := by rw [verdictNow, overcureOf_eq recipe]; rfl
  have opened (state : x.state = .curing) : s.startToOpen p = started false := by
    rw [startToOpen_curing state recipe bound, verdict_eq]
    simp only [started, curing, state, decide_true, Bool.or_true, Bool.or_false, if_true]
    rfl
  refine ⟨fun tag h => ⟨fun state early => ?_, fun state late => ?_⟩, fun tag h state => ?_⟩
  · refine congrArg Host.Outcome.next (State.serve_answer h ?_)
    rw [ownOpen, pressNo_eq hp]
    dsimp only
    rw [if_neg (not_not.mpr state), recipeFigure_eq recipe]
    exact if_pos early
  · refine congrArg Host.Outcome.next (serve_settled h ?_ rfl rfl)
    rw [ownOpen, pressNo_eq hp, ← opened state]
    dsimp only
    rw [if_neg (not_not.mpr state), recipeFigure_eq recipe]
    exact if_neg (Nat.not_lt.mpr late)
  rw [exec_abort_moving hp h state, State.markAborted, writeBound_bound bound]
  let marked : State := s.writeOpen b.serial fun o => { o with aborted := true }
  rcases state with state | state
  · have aborted : marked.startToOpen p = started true := by
      have other : (marked.press p).state ≠ .curing := fun e => absurd (state.symm.trans e) (by decide)
      have notCuring : curing = false := by simp [curing, state]
      have unmarked : (s.heat.modify p fun h =>
          { h with profile := { h.profile with openMark := h.profile.openMark || false } }) = s.heat :=
        modify_same (by simp only [Bool.or_false])
      rw [startToOpen_other (s := marked) other recipe]
      simp only [started, notCuring, unmarked, Bool.or_true, Bool.false_eq_true, if_false]
      rfl
    rw [aborted]
  · have aborted : marked.startToOpen p =
        atGeneration (started true) (nextGeneration (nextGeneration s.retained.generation)) := by
      have table := map_writes s.image.openTable b.serial (f := fun o => { o with aborted := true })
        (fun o => o.onCure fun u => { u with verdict := some verdict }) fun _ => rfl
      have kept : verdictNow marked p = verdict := verdict_eq
      have isCuring : curing = true := decide_eq_true state
      rw [startToOpen_curing (s := marked) state recipe bound, kept]
      simp only [started, isCuring, Bool.or_true, if_true]
      dsimp only [marked, State.writeOpen, State.writeImage]
      rw [table]
      rfl
    rw [aborted, oneChange_afterTwo (Changes.settled (started true) p) (Nat.le_refl 32) rfl]

end Sys2Proof.Machine.PressCycle

/-!
PROOF. RELEASE, ABORT in LOADED and CLEAR_FAULT (O37), and pot life (O38).
-/

namespace Sys2Proof.Machine.PressCycle

open ChargeWeighing

/-! ## Back to IDLE (R88, R94, R97) -/

theorem oneChange_closeRecord (s : State) (serial : Nat) (d : Disposition) (c : Option PressFault) {t : State}
    (h : t.retained = (s.closeRecord serial d c).retained) : oneChange s t = t :=
  oneChange_of (by rw [h]; exact generation_closeRecord s serial d c)

/-- The part's record closed and the press emptied, as an ABORT in LOADED and a RELEASE do it. -/
theorem serve_emptied {s : State} {p : Fin 4} {kind tag : Byte} {body : List Byte} (h : s.holds kind tag body)
    {own : State → State} {b : Bound} (bound : (s.press p).bound = some b) (d : Disposition)
    (e : own s = ((s.closeBound p d none).modPress p fun x => x.enter .idle none).answer .ok []) :
    s.serve kind tag body own =
      ((s.closeRecord b.serial d none).modPress p fun x =>
        { x with state := .idle, stroke := none, valves := ⟨false, false, false⟩, bound := none }).repliedTo kind
            tag
        body .ok [] := by
  rw [closeBound_bound bound, modPress_modPress] at e
  rw [State.serve_act h e (phase_closeRecord ..) (congrArg Link.inHand (link_closeRecord ..))]
  exact congrArg (State.repliedTo · kind tag body .ok []) (oneChange_closeRecord s b.serial d none rfl)

/-- What makes a part SUSPECT (R130). -/
theorem suspect_iff (r : Record) :
    r.suspect = true ↔ ∃ u, r.cure = some u ∧
      (u.verdict = some .under ∨ u.verdict = some .over_ ∨ 0 < u.frozen ∨ 0 < u.shortfall ∨ 0 < u.dips) := by
  unfold Record.suspect
  cases r.cure with
  | none => simp
  | some u => simp [or_assoc]

/-- Settles O37: the closings to IDLE, and CLEAR_FAULT. -/
theorem releaseAbortAndClearFaultReturnToIdle : Obligations.ReleaseAbortAndClearFaultReturnToIdle := by
  unfold Obligations.ReleaseAbortAndClearFaultReturnToIdle
  intro s tag press
  have refuse {kind : Byte} {own : State → State} {st : Status} (h : s.holds kind tag [press])
      (e : own s = s.answer st []) : Host.Outcome.next (s.serve kind tag [press] own) =
        (.next (s.repliedTo kind tag [press] st []) : Host.Outcome State Fault Refusal) :=
    congrArg Host.Outcome.next (State.serve_answer h e)
  refine ⟨fun high => ⟨fun h => refuse h ?_, fun h => refuse h ?_, fun h => refuse h ?_, fun h => refuse h ?_⟩,
    fun p hp => ?_⟩
  · rw [ownOpen, pressNo_none high]
  · rw [ownAbort, pressNo_none high]
  · rw [ownRelease, pressNo_none high]
  · rw [ownClearFault, pressNo_none high]
  intro emptied
  refine ⟨fun b h loaded bound => ?_, fun h => ⟨fun state => refuse h ?_, fun b o unload bound found => ?_⟩,
    fun h => ?_⟩
  · refine congrArg Host.Outcome.next (serve_emptied h bound .scrapAborted ?_)
    rw [ownAbort, pressNo_eq hp]
    simp only [loaded]
    rfl
  · rw [ownRelease, pressNo_eq hp]
    exact if_neg state
  · intro doubtful d aborted expired suspect good
    have record : s.boundRecord p = some o := by
      rw [State.boundRecord, bound]
      exact found
    have disposition : o.releaseDisposition = d := by
      unfold OpenRecord.releaseDisposition
      by_cases a : o.aborted = true
      · rw [if_pos a, aborted a]
      rw [Bool.not_eq_true] at a
      by_cases e : o.expired = true
      · rw [a, e, expired a e]; rfl
      rw [Bool.not_eq_true] at e
      by_cases u : doubtful
      · rw [a, e, (suspect_iff _).mpr u, suspect a e u]; rfl
      · rw [a, e, Bool.eq_false_iff.mpr (mt (suspect_iff _).mp u), good a e u]; rfl
    refine congrArg Host.Outcome.next (serve_emptied h bound d ?_)
    rw [ownRelease, pressNo_eq hp]
    dsimp only
    rw [if_pos unload, State.releasePart, record, Option.map_some, Option.getD_some, disposition]
  · intro i
    refine ⟨fun state => refuse h ?_, fun fault unsafeNow => refuse h ?_, fun fault openLimit ejectHome => ?_⟩
    · rw [ownClearFault, pressNo_eq hp]
      exact if_pos state
    · rw [ownClearFault, pressNo_eq hp]
      dsimp only
      rw [if_neg (not_not.mpr fault)]
      exact if_neg (by simpa using unsafeNow)
    · refine congrArg Host.Outcome.next (serve_aside h ?_ rfl rfl rfl)
      rw [ownClearFault, pressNo_eq hp]
      dsimp only
      rw [if_neg (not_not.mpr fault), if_pos (Bool.and_eq_true_iff.mpr ⟨openLimit, ejectHome⟩)]
      rfl

/-! ## Pot life (R75, R76) -/

/-- Settles O38: a queued ticket that expires, and a bound part in LOADED. -/
theorem potLifeExpiresQueuedTicketsAndMarksBoundParts : Obligations.PotLifeExpiresQueuedTicketsAndMarksBoundParts := by
  unfold Obligations.PotLifeExpiresQueuedTicketsAndMarksBoundParts
  intro s p hr
  have idle {act : State → State} (h : act s = s) :
      Host.Outcome.next (plantEvent s act) = (.next s.pump : Host.Outcome State Fault Refusal) := by
    rw [plantEvent_aside hr (by rw [h]), h]
  refine ⟨fun serial => ⟨fun queued => ?_, fun absent => idle (if_neg ?_)⟩, fun state => idle (if_neg ?_),
    fun b loaded bound => ⟨fun stopped => idle (if_neg ?_), fun runs => ?_⟩⟩
  · have act : s.expireTicket p serial.toNat = ((s.closeRecord serial.toNat .scrapExpired none).modPress p fun x =>
        { x with tickets := x.tickets.filter fun k => !decide (k.serial = serial.toNat) }).raise (.press p)
          .ticketExpired := if_pos (by simpa using queued)
    refine congrArg Host.Outcome.next ?_
    rw [plantEvent, if_pos hr, act]
    exact congrArg State.pump (oneChange_closeRecord s serial.toNat .scrapExpired none rfl)
  · simpa using absent
  · simp [Press.boundTimerRuns, state]
  · simp [Press.boundTimerRuns, bound, stopped]
  · have act : s.expireBound p = ((s.writeBound p fun o => { o with expired := true }).modPress p fun x =>
        { x with bound := x.bound.map fun b => { b with pot := none } }).raise (.press p) .ticketExpired :=
      if_pos (by simp [Press.boundTimerRuns, loaded, bound, Option.isSome_iff_ne_none, runs])
    rw [writeBound_bound bound, modPress_eq] at act
    have pressBound : ((s.writeOpen b.serial fun o => { o with expired := true }).press p).bound = some b := bound
    rw [pressBound] at act
    refine congrArg Host.Outcome.next ?_
    rw [plantEvent, if_pos hr, act, oneChange_of (.inr rfl)]
    rfl

end Sys2Proof.Machine.PressCycle

/-!
PROOF. What the inputs of a press bring: CURING and its dips (O41), OPEN_LIMIT and the ejector (O42).
-/

namespace Sys2Proof.Machine.PressCycle

open ChargeWeighing

/-! ## Input events (R71, R207) -/

/-- The state once the levels of a press have arrived, and nothing has been done on them. -/
def heard (s : State) (p : Fin 4) (levels : PressInputs) (guardRise : Bool) : State :=
  { s with lines := s.lines.at p levels guardRise, inputs := s.inputs.at p levels guardRise }

@[simp] theorem heard_levels (s : State) (p : Fin 4) (levels : PressInputs) (guardRise : Bool) :
    (heard s p levels guardRise).inputs.presses.get p = levels := Tab.get_set_same ..

/-- In a part that works an input event is one change, made by what the press does on the levels. -/
theorem inputEvent_eq {s : State} (hr : s.phase = .running) (p : Fin 4) (levels : PressInputs) (guardRise : Bool) :
    inputEvent p levels guardRise s = (oneChange s ((heard s p levels guardRise).settled p)).pump := by
  unfold inputEvent
  exact (if_pos hr).trans (if_pos hr)

/-- Levels on which the press does nothing. -/
theorem inputEvent_none {s : State} (hr : s.phase = .running) {p : Fin 4} {levels : PressInputs} {guardRise : Bool}
    (h : (heard s p levels guardRise).pressCondition p = none) :
    inputEvent p levels guardRise s = (heard s p levels guardRise).pump := by
  rw [inputEvent_eq hr, settled_none h, oneChange_of (s := s) (t := heard s p levels guardRise) (.inl rfl)]

/-- Levels that meet one condition, in one write or none. -/
theorem inputEvent_once {s t : State} (hr : s.phase = .running) {p : Fin 4} {levels : PressInputs} {guardRise : Bool}
    (h : (heard s p levels guardRise).pressCondition p = some t) (ht : t.pressCondition p = none)
    (hg : t.retained.generation = s.retained.generation ∨
      t.retained.generation = nextGeneration s.retained.generation) :
    inputEvent p levels guardRise s = t.pump := by
  rw [inputEvent_eq hr, settled_once h ht, oneChange_of hg]

/-! ## A press that waits for nothing, by its state and its levels (R71) -/

section Quiet

variable {s : State} {p : Fin 4} {x : Press} {l : PressInputs}

/-- In CURING the dip is in progress exactly while the press is not shut (R84). -/
theorem quiet_curing (press : s.press p = x) (level : s.inputs.presses.get p = l) (state : x.state = .curing)
    (dip : x.dip = !(l.closedLimit && l.tonnageOk)) : s.pressCondition p = none := by
  subst press level
  rw [condition_curing state, dip]
  cases (s.inputs.presses.get p).closedLimit && (s.inputs.presses.get p).tonnageOk <;> rfl

theorem quiet_still (press : s.press p = x) (level : s.inputs.presses.get p = l)
    (state : x.state ∈ [PressState.idle, .loaded, .unload]) (open_ : l.openLimit = true) :
    s.pressCondition p = none := by
  subst press level
  rw [condition_still state, if_pos open_]

theorem quiet_strokeOut {k : Nat} (press : s.press p = x) (level : s.inputs.presses.get p = l)
    (state : x.state = .ejecting) (stroke : x.stroke = some ⟨k, .out⟩) (out : l.ejectOut = false) :
    s.pressCondition p = none := by
  subst press level
  rw [condition_strokeOut state stroke, out]
  rfl

theorem quiet_strokeBack {k : Nat} (press : s.press p = x) (level : s.inputs.presses.get p = l)
    (state : x.state = .ejecting) (stroke : x.stroke = some ⟨k, .back⟩) (home : l.ejectHome = false) :
    s.pressCondition p = none := by
  subst press level
  rw [condition_strokeBack state stroke, home]
  rfl

end Quiet

/-! ## CURING (R82, R84, R103) -/

theorem enterCuring_eq {s : State} {p : Fin 4} {b : Bound} (bound : (s.press p).bound = some b) :
    s.enterCuring p =
      { s with
        presses := s.presses.set p { (s.press p).enter .curing none with closeTimer := none, dip := false },
        heat := s.heat.modify p fun h => { h with profile := { h.profile with closeMark := true } },
        image :=
          { s.image with
            openTable := s.image.openTable.map fun o =>
              if o.record.serial = b.serial then
                { o with record :=
                    { o.record with cure := some (newSummary s.clock.stamp (s.press p).cure.target) } }
              else o },
        retained := { s.retained with generation := nextGeneration s.retained.generation } } := by
  unfold State.enterCuring
  refine (writeBound_bound ?_ _).trans rfl
  change ((s.modPress p _).press p).bound = some b
  rw [State.press_modPress]
  exact bound

theorem beginDip_eq {s : State} {p : Fin 4} {b : Bound} (bound : (s.press p).bound = some b) :
    s.beginDip p =
      { s with
        presses := s.presses.set p { s.press p with dip := true },
        image :=
          { s.image with
            openTable := s.image.openTable.map fun (o : OpenRecord) =>
              if o.record.serial = b.serial then o.onCure fun u => { u with dips := min 65535 (u.dips + 1) } else o },
        retained := { s.retained with generation := nextGeneration s.retained.generation } }.raise (.press p)
        .pressureDip := by
  unfold State.beginDip
  simp only [HeaterPower.satAdd_eq]
  rw [writeBound_bound (by rw [State.press_modPress]; exact bound)]
  rfl

/-- Settles O41: CURING entered, a dip begun and ended. -/
theorem tonnageBringsCuringAndDipsAreCounted : Obligations.TonnageBringsCuringAndDipsAreCounted := by
  unfold Obligations.TonnageBringsCuringAndDipsAreCounted
  intro s p levels guardRise hr shut hears x
  refine ⟨fun b closing bound => ?_, fun curing => ⟨?_, fun d => ?_⟩⟩
  · have met := condition_closing (s := heard s p shut guardRise) closing
    rw [heard_levels, enterCuring_eq (s := heard s p shut guardRise) bound] at met
    refine congrArg Host.Outcome.next (inputEvent_once hr met ?_ (.inr rfl))
    exact quiet_curing (Tab.get_set_same ..) (heard_levels ..) rfl rfl
  · have cleared : ∀ y : Press, y = { x with dip := false } →
        State.pressCondition { heard s p shut guardRise with presses := s.presses.set p y } p = none :=
      fun y hy => quiet_curing (Tab.get_set_same ..) (heard_levels ..) (by rw [hy]; exact curing) (by rw [hy]; rfl)
    have met := condition_curing (s := heard s p shut guardRise) curing
    rw [heard_levels] at met
    cases dip : x.dip
    · have same : { x with dip := false } = x := by rw [← dip]
      have still : s.presses.set p { x with dip := false } = s.presses := by rw [same]; exact set_get ..
      rw [still]
      exact congrArg Host.Outcome.next (inputEvent_none hr (met.trans (if_neg (Bool.eq_false_iff.mp dip))))
    · exact congrArg Host.Outcome.next
        (inputEvent_once hr (met.trans (if_pos dip)) (cleared _ rfl) (.inl rfl))
  · have fell : ((lowInput d levels).closedLimit && (lowInput d levels).tonnageOk) = false := by
      cases d <;> simp [lowInput]
    intro low
    have named : low = lowInput d levels := by cases d <;> rfl
    clear_value low
    subst named
    have met := condition_curing (s := heard s p (lowInput d levels) guardRise) curing
    rw [heard_levels, if_neg (Bool.eq_false_iff.mp fell)] at met
    refine ⟨fun dip => congrArg Host.Outcome.next (inputEvent_none hr (met.trans (if_pos dip))),
      fun b dip bound => ?_⟩
    replace met := met.trans (if_neg (Bool.eq_false_iff.mp dip))
    rw [beginDip_eq (s := heard s p (lowInput d levels) guardRise) bound] at met
    refine congrArg Host.Outcome.next (inputEvent_once hr met ?_ (.inr rfl))
    exact quiet_curing (Tab.get_set_same ..) (heard_levels ..) curing (by rw [fell]; rfl)

/-! ## OPEN_LIMIT and the ejector (R81, R89, R91, R92) -/

section Demould

variable {s : State} {p : Fin 4} {r : Recipe}

/-- OPEN_LIMIT met with no stroke to try: the press is in UNLOAD (R89). -/
theorem openLimitReached_noTries (recipe : s.recipeOf p = some r) (tries : r.demouldTries = 0) :
    s.openLimitReached p =
      (s.modPress p fun x =>
        { x.enter .unload none with openTimer := none, minOpen := startTimer r.minOpen }).raise (.press p)
        .demouldDone := by
  rw [openLimitReached_unload (by rw [recipeFigure_eq recipe, tries]), recipeFigure_eq recipe, State.enterUnload,
    modPress_modPress]
  rfl

/-- OPEN_LIMIT met: the first stroke begins (R89, R91). -/
theorem openLimitReached_tries (recipe : s.recipeOf p = some r) (tries : 0 < r.demouldTries) :
    s.openLimitReached p =
      s.modPress p fun x =>
        { x.enter .ejecting (some ⟨1, .out⟩) with
          openTimer := none, minOpen := startTimer r.minOpen, strokeTimer := some (seconds r.strokeTimeout) } := by
  rw [openLimitReached_stroke (by rw [recipeFigure_eq recipe]; omega), recipeFigure_eq recipe, State.beginStroke,
    modPress_modPress, recipeFigure_eq (s := s.modPress p _) recipe]
  rfl

theorem strokeBack_eq (recipe : s.recipeOf p = some r) (k : Nat) :
    s.strokeBack p k =
      s.modPress p fun x =>
        { x.enter .ejecting (some ⟨k, .back⟩) with strokeTimer := some (seconds r.strokeTimeout) } := by
  rw [State.strokeBack, recipeFigure_eq recipe]

theorem beginStroke_eq (recipe : s.recipeOf p = some r) (k : Nat) :
    s.beginStroke p k =
      s.modPress p fun x =>
        { x.enter .ejecting (some ⟨k, .out⟩) with strokeTimer := some (seconds r.strokeTimeout) } := by
  rw [State.beginStroke, recipeFigure_eq recipe]

theorem writeDemould_eq {b : Bound} (bound : (s.press p).bound = some b) (strokes : Nat) (free : Bool) :
    s.writeDemould p strokes free =
      { s with
        image :=
          { s.image with
            openTable := s.image.openTable.map fun (o : OpenRecord) =>
              if o.record.serial = b.serial then
                { o with record := { o.record with demould := some ⟨strokes, free⟩ } }
              else o },
        retained := { s.retained with generation := nextGeneration s.retained.generation } } :=
  writeBound_bound bound _

/-- A press in EJECTING enters another phase of its strokes. -/
theorem enter_ejecting {x : Press} (h : x.state = .ejecting) (stroke : Option Stroke) :
    x.enter .ejecting stroke = { x with stroke := stroke, valves := valvesFor .ejecting stroke } := by
  rw [Press.enter, ← h]

/-- The stroke ends with the part free: its summary is written, and the press is in UNLOAD (R92). -/
theorem endStroke_unload {b : Bound} {k : Nat} (bound : (s.press p).bound = some b)
    (free : (s.inputs.presses.get p).partFree = true) :
    s.endStroke p k =
      { s.writeDemould p k true with
        presses := s.presses.set p { (s.press p).enter .unload none with strokeTimer := none } }.raise (.press p)
        .demouldDone := by
  rw [endStroke_free free, writeDemould_eq (s := s.modPress p _) (by rw [State.press_modPress]; exact bound),
    writeDemould_eq bound, State.enterUnload, modPress_eq, modPress_eq]
  simp only [State.press, Tab.get_set_same, set_set]
  rfl

/-- The stroke ends with the part held, and another is to be tried (R92). -/
theorem endStroke_next {k : Nat} (recipe : s.recipeOf p = some r)
    (held : (s.inputs.presses.get p).partFree = false) (more : k < r.demouldTries) :
    s.endStroke p k =
      s.modPress p fun x =>
        { x.enter .ejecting (some ⟨k + 1, .out⟩) with strokeTimer := some (seconds r.strokeTimeout) } := by
  rw [endStroke_again held (by rw [recipeFigure_eq recipe]; exact more), beginStroke_eq (s := s.modPress p _) recipe,
    modPress_modPress]
  rfl

/-- The last stroke ends with the part held: the summary and the stuck counter are written before the fault (R92). -/
theorem endStroke_last {b : Bound} {k : Nat} (recipe : s.recipeOf p = some r) (bound : (s.press p).bound = some b)
    (held : (s.inputs.presses.get p).partFree = false) (last : r.demouldTries ≤ k) :
    s.endStroke p k =
      (atGeneration
        { s.writeDemould p k false with
          presses := s.presses.set p { s.press p with strokeTimer := none },
          image :=
            { (s.writeDemould p k false).image with
              counters := s.image.counters.modify p fun c => { c with stuck := c.stuck.bump } } }
        (nextGeneration (nextGeneration s.retained.generation))).enterFault p .stuckPart := by
  rw [endStroke_stuck held (by rw [recipeFigure_eq recipe]; omega),
    writeDemould_eq (s := s.modPress p _) (by rw [State.press_modPress]; exact bound), writeDemould_eq bound]
  rfl

end Demould

/-- Settles O42: the demould, each branch with no further condition met. -/
theorem openLimitAndTheEjectorDemouldThePart : Obligations.OpenLimitAndTheEjectorDemouldThePart := by
  unfold Obligations.OpenLimitAndTheEjectorDemouldThePart
  intro s p levels guardRise r hr recipe x hears stroke
  refine ⟨fun opening => ?_, fun k ejecting out home => ?_, fun k b ejecting back bound => ?_⟩
  · intro opened l
    have met := condition_opening (s := heard s p l guardRise) opening
    rw [heard_levels, if_pos rfl] at met
    refine ⟨fun tries => ?_, fun tries noOut => ?_⟩
    · rw [openLimitReached_noTries (s := heard s p l guardRise) recipe tries] at met
      refine congrArg Host.Outcome.next (inputEvent_once hr met ?_ (.inl rfl))
      exact quiet_still (Tab.get_set_same ..) (heard_levels ..) (by simp) rfl
    · rw [openLimitReached_tries (s := heard s p l guardRise) recipe tries] at met
      refine congrArg Host.Outcome.next (inputEvent_once hr met ?_ (.inl rfl))
      exact quiet_strokeOut (Tab.get_set_same ..) (heard_levels ..) rfl rfl noOut
  · have met := condition_strokeOut (s := heard s p { levels with ejectOut := true } guardRise) ejecting out
    rw [heard_levels, if_pos rfl,
      strokeBack_eq (s := heard s p { levels with ejectOut := true } guardRise) recipe] at met
    refine congrArg Host.Outcome.next ((inputEvent_once hr met ?_ (.inl rfl)).trans ?_)
    · exact quiet_strokeBack (Tab.get_set_same ..) (heard_levels ..) rfl rfl home
    · rw [modPress_eq, enter_ejecting (x := (heard s p { levels with ejectOut := true } guardRise).press p) ejecting]
      rfl
  · intro l demoulded
    have met := condition_strokeBack (s := heard s p l guardRise) ejecting back
    rw [heard_levels, if_pos rfl] at met
    refine ⟨fun free open_ => ?_, fun stuck more noOut => ?_, fun stuck last => ?_⟩
    · rw [endStroke_unload (s := heard s p l guardRise) bound (by rw [heard_levels]; exact free),
        writeDemould_eq (s := heard s p l guardRise) bound] at met
      refine congrArg Host.Outcome.next (inputEvent_once hr met ?_ (.inr rfl))
      exact quiet_still (Tab.get_set_same ..) (heard_levels ..) (by simp) open_
    · rw [endStroke_next (s := heard s p l guardRise) recipe (by rw [heard_levels]; exact stuck) more] at met
      refine congrArg Host.Outcome.next (inputEvent_once hr met ?_ (.inl rfl))
      exact quiet_strokeOut (Tab.get_set_same ..) (heard_levels ..) rfl rfl noOut
    · intro c up d
      rw [endStroke_last (s := heard s p l guardRise) recipe bound (by rw [heard_levels]; exact stuck) last,
        writeDemould_eq (s := heard s p l guardRise) bound] at met
      refine congrArg Host.Outcome.next ?_
      rw [inputEvent_eq hr, settled_enterFault met]
      exact congrArg State.pump (oneChange_afterTwo
        (t := { d with image := { d.image with counters := s.image.counters.set p { c with stuck := up } } })
        (Changes.enterFault _ p .stuckPart) (by decide) rfl)

end Sys2Proof.Machine.PressCycle

/-!
PROOF. Entering FAULT (O39): what it leaves of the press, of its record, and of everything else.
-/

namespace Sys2Proof.Machine.PressCycle

open ChargeWeighing

/-! ## Records found, written and closed (R122, R126, R128) -/

/-- A write that keeps the serials finds the record it has written. -/
theorem openRecord_map (m : Image) (serial : Nat) {f : OpenRecord → OpenRecord}
    (hf : ∀ o, (f o).record.serial = o.record.serial) :
    { m with openTable := m.openTable.map f }.openRecord serial = (m.openRecord serial).map f := by
  unfold Image.openRecord
  rw [List.find?_map]
  congr 2
  funext o
  simp [hf]

theorem openRecord_writeBound {s : State} {p : Fin 4} {b : Bound} (bound : (s.press p).bound = some b)
    {f : OpenRecord → OpenRecord} (hf : ∀ o, (f o).record.serial = o.record.serial) (serial : Nat) :
    (s.writeBound p f).image.openRecord serial =
      (s.image.openRecord serial).map fun o => if o.record.serial = b.serial then f o else o := by
  rw [writeBound_bound bound]
  refine openRecord_map s.image serial fun o => ?_
  split
  · exact hf o
  · rfl

theorem serial_of_openRecord {m : Image} {serial : Nat} {o : OpenRecord} (h : m.openRecord serial = some o) :
    o.record.serial = serial := by
  simpa using List.find?_some h

/-- The closing procedure, for a record that is open (R128). -/
theorem closeRecord_found {s : State} {serial : Nat} {o : OpenRecord} (h : s.image.openRecord serial = some o)
    (d : Disposition) (c : Option PressFault) :
    s.closeRecord serial d c =
      { s with
        image :=
          { s.image with
            openTable := s.image.openTable.filter fun q => !decide (q.record.serial = serial),
            ring := s.image.ring.append (o.record.closed d c s.clock.stamp),
            counters := s.image.counters.modify o.record.press fun x => x.bumpFor d },
        retained := { s.retained with generation := nextGeneration s.retained.generation } } := by
  rw [State.closeRecord, h]
  rfl

theorem closeRecord_absent {s : State} {serial : Nat} (h : s.image.openRecord serial = none) (d : Disposition)
    (c : Option PressFault) : s.closeRecord serial d c = s := by
  rw [State.closeRecord, h]

/-- A closed serial is no longer in the table, whether or not it was there. -/
theorem openTable_closeRecord (s : State) (serial : Nat) (d : Disposition) (c : Option PressFault) :
    (s.closeRecord serial d c).image.openTable =
      s.image.openTable.filter fun q => !decide (q.record.serial = serial) := by
  cases h : s.image.openRecord serial with
  | none =>
    rw [closeRecord_absent h]
    refine (List.filter_eq_self.mpr fun q hq => ?_).symm
    simpa using List.find?_eq_none.mp h q hq
  | some o => rw [closeRecord_found h]

/-- A closing looks at no press. -/
theorem closeRecord_modPress (s : State) (p : Fin 4) (f : Press → Press) (serial : Nat) (d : Disposition)
    (c : Option PressFault) : (s.modPress p f).closeRecord serial d c = (s.closeRecord serial d c).modPress p f := by
  cases h : s.image.openRecord serial with
  | none => rw [closeRecord_absent h, closeRecord_absent (s := s.modPress p f) h]
  | some o => rw [closeRecord_found h, closeRecord_found (s := s.modPress p f) h]; rfl

/-! ## Leaving CURING (R87, R96, R114) -/

/-- The record of the part bound to press `p` as leaving CURING writes it: with the verdict in its cure summary. -/
def leftRecord (s : State) (p : Fin 4) (o : OpenRecord) : OpenRecord :=
  if (s.press p).state = .curing then o.onCure fun u => { u with verdict := some (verdictNow s p) } else o

theorem heat_writeBound (s : State) (p : Fin 4) (f : OpenRecord → OpenRecord) : (s.writeBound p f).heat = s.heat := by
  rw [(RecordOnly.writeBound s p f).eq]

theorem heat_leaveCuring (s : State) (p : Fin 4) :
    (s.leaveCuring p).heat =
      if (s.press p).state = .curing then
        s.heat.modify p fun h => { h with profile := { h.profile with openMark := true } }
      else s.heat := by
  unfold State.leaveCuring
  split
  · exact heat_writeBound ..
  · rfl

theorem cure_leaveCuring (s : State) (p : Fin 4) :
    ((s.leaveCuring p).press p).cure =
      if (s.press p).state = .curing then { (s.press p).cure with verdict := some (verdictNow s p) }
      else (s.press p).cure := by
  unfold State.leaveCuring
  split
  · rw [fixVerdict_eq, press_writeBound, State.press_modPress]
    rfl
  · rfl

theorem bound_leaveCuring (s : State) (p : Fin 4) : ((s.leaveCuring p).press p).bound = (s.press p).bound := by
  obtain ⟨cure, press⟩ := press_leaveCuring s p
  rw [press]

/-- Leaving CURING writes into the table of open records only. -/
theorem image_leaveCuring (s : State) (p : Fin 4) :
    (s.leaveCuring p).image = { s.image with openTable := (s.leaveCuring p).image.openTable } := by
  unfold State.leaveCuring
  split
  · rw [fixVerdict_eq]
    unfold State.writeBound
    split <;> rfl
  · rfl

theorem clock_leaveCuring (s : State) (p : Fin 4) : (s.leaveCuring p).clock = s.clock := by
  rw [(PressOnly.leaveCuring (p := p) s).eq]

theorem openRecord_leaveCuring {s : State} {p : Fin 4} {b : Bound} (bound : (s.press p).bound = some b)
    (serial : Nat) :
    (s.leaveCuring p).image.openRecord serial =
      (s.image.openRecord serial).map fun o => if o.record.serial = b.serial then leftRecord s p o else o := by
  by_cases h : (s.press p).state = .curing
  · have left : leftRecord s p = fun o => o.onCure fun u => { u with verdict := some (verdictNow s p) } :=
      funext fun o => if_pos h
    rw [leaveCuring_curing h, left, fixVerdict_eq]
    refine openRecord_writeBound (b := b) ?_ ?_ serial
    · rw [State.press_modPress]
      exact bound
    · exact fun _ => rfl
  · have left : leftRecord s p = id := funext fun o => if_neg h
    rw [leaveCuring_other h, left]
    simp

/-- A press with no part has no record to write into. -/
theorem leaveCuring_unbound {s : State} {p : Fin 4} (bound : (s.press p).bound = none) :
    (s.leaveCuring p).image = s.image ∧ (s.leaveCuring p).retained = s.retained := by
  unfold State.leaveCuring
  split
  · rw [fixVerdict_eq, writeBound_unbound (by rw [State.press_modPress]; exact bound)]
    exact ⟨rfl, rfl⟩
  · exact ⟨rfl, rfl⟩

/-! ## FAULT (R96, R128) -/

theorem heat_closeBound (s : State) (p : Fin 4) (d : Disposition) (c : Option PressFault) :
    (s.closeBound p d c).heat = s.heat := by
  cases h : (s.press p).bound with
  | none => rw [closeBound_unbound h]
  | some b => rw [closeBound_bound h, State.modPress_heat, (RecordOnly.closeRecord ..).eq]

theorem heat_enterFault (s : State) (p : Fin 4) (c : PressFault) :
    (s.enterFault p c).heat = (s.leaveCuring p).heat := by
  rw [enterFault_steps, State.raise_heat, heat_closeBound, State.modPress_heat]

theorem cure_enterFault (s : State) (p : Fin 4) (c : PressFault) :
    ((s.enterFault p c).press p).cure = ((s.leaveCuring p).press p).cure := by
  rw [enterFault_steps]
  change ((State.closeBound ..).press p).cure = _
  rw [press_closeBound, State.press_modPress]
  rfl

theorem pressFault_mem_enterFault (s : State) (p : Fin 4) (c : PressFault) :
    EventKind.pressFault ∈ (s.enterFault p c).link.pending.get (Source.press p).index := by
  rw [enterFault_steps, mem_raise]
  exact .inr ⟨rfl, rfl⟩

/-- The image of a press's FAULT: its part's record closed. -/
theorem image_enterFault_bound {s : State} {p : Fin 4} {b : Bound} (bound : (s.press p).bound = some b)
    (c : PressFault) :
    (s.enterFault p c).image = ((s.leaveCuring p).closeRecord b.serial .scrapFault (some c)).image := by
  rw [enterFault_steps, State.raise_image,
    closeBound_bound (by rw [State.press_modPress]; exact (bound_leaveCuring s p).trans bound), State.modPress_image,
    closeRecord_modPress]
  rfl

theorem image_enterFault_unbound {s : State} {p : Fin 4} (bound : (s.press p).bound = none) (c : PressFault) :
    (s.enterFault p c).image = s.image ∧ (s.enterFault p c).retained = s.retained := by
  have unbound : (((s.leaveCuring p).modPress p fun x =>
      { x.enter .fault none with
        closeTimer := none, openTimer := none, strokeTimer := none, cause := some c }).press p).bound = none := by
    rw [State.press_modPress]
    exact (bound_leaveCuring s p).trans bound
  rw [enterFault_steps, closeBound_unbound unbound]
  exact leaveCuring_unbound bound

/-- The record that a FAULT closes is the youngest of the ring: as it stood, but for the verdict and the closing. -/
theorem enterFault_closes {s : State} {p : Fin 4} {b : Bound} {o : OpenRecord} (bound : (s.press p).bound = some b)
    (found : s.image.openRecord b.serial = some o) (room : s.image.ring.count < 1024) (c : PressFault) :
    (∀ q ∈ (s.enterFault p c).image.openTable, q.record.serial ≠ b.serial) ∧
      (s.enterFault p c).image.ring.count = s.image.ring.count + 1 ∧
      (∀ k, k < s.image.ring.count → (s.enterFault p c).image.ring.record k = s.image.ring.record k) ∧
      (s.enterFault p c).image.ring.record s.image.ring.count =
        some ((leftRecord s p o).record.closed .scrapFault (some c) s.clock.stamp) := by
  have left : (s.leaveCuring p).image.openRecord b.serial = some (leftRecord s p o) := by
    rw [openRecord_leaveCuring bound, found, Option.map_some, if_pos (serial_of_openRecord found)]
  have ring : (s.leaveCuring p).image.ring = s.image.ring := by rw [image_leaveCuring]
  rw [image_enterFault_bound bound, closeRecord_found left, ring, clock_leaveCuring]
  dsimp only
  refine ⟨fun q hq => ?_, rfl, fun k hk => ?_, record_append_last ..⟩
  · simpa using List.of_mem_filter hq
  · rw [Ring.record_append room, if_pos hk]

/-- Settles O39: the facts of this file, each in its place. -/
theorem enteringFaultMakesThePressSafe : Obligations.EnteringFaultMakesThePressSafe := by
  unfold Obligations.EnteringFaultMakesThePressSafe
  intro s p c
  have only := PressOnly.enterFault (p := p) s c
  obtain ⟨cure, press⟩ := press_enterFault s p c
  have cured := cure_enterFault s p c
  have heat := heat_enterFault s p c
  rw [heat_leaveCuring] at heat
  rw [cure_leaveCuring] at cured
  refine ⟨_, rfl, ?_⟩
  intro verdict
  have verdict_eq {r : Recipe} (recipe : s.recipeOf p = some r) : verdictNow s p = verdict r := by
    rw [verdictNow, overcureOf_eq recipe]; rfl
  refine ⟨by rw [press]; rfl, by rw [press], by rw [press]; rfl, by rw [press]; rfl, by rw [press], by rw [press],
    by rw [press], by rw [press], by rw [press]; rfl, by rw [press]; rfl, fun other => ?_, fun curing => ?_,
    fun q hq => ⟨only.others q hq, only.otherHeat q hq⟩, pressFault_mem_enterFault s p c,
    fun b o bound found room => ?_, fun unbound => image_enterFault_unbound unbound c, by rw [only.eq], by rw [only.eq],
    by rw [only.eq], by rw [only.eq], by rw [only.eq], by rw [only.eq], by rw [only.eq]⟩
  · rw [if_neg other] at heat cured
    exact ⟨cured, heat⟩
  · rw [if_pos curing] at heat cured
    have mark : ((s.enterFault p c).pressHeat p).profile.openMark = true := by
      rw [State.pressHeat, heat, Tab.get_modify_same]
    rw [cured]
    exact ⟨rfl, fun r recipe => by rw [verdict_eq recipe], rfl, mark, (only.heat p).1⟩
  · obtain ⟨gone, count, kept, closed⟩ := enterFault_closes bound found room c
    refine ⟨gone, count, kept, ?_⟩
    intro record
    refine ⟨fun other => ?_, fun r curing recipe => ?_⟩
    · rw [closed, leftRecord, if_neg other]
      rfl
    · rw [closed, leftRecord, if_pos curing, verdict_eq recipe]
      rfl

end Sys2Proof.Machine.PressCycle

/-!
PROOF. The fall of the guard, press by press: what a list of presses that act on it one after another leaves alone, and
what it does to each of them (the guard's part of O40).
-/

namespace Sys2Proof.Machine.PressCycle

open ChargeWeighing

/-! ## The stroke cut short (R93, R127) -/

theorem cutStroke_other {s : State} {p : Fin 4} (h : (s.press p).state ≠ .ejecting) : s.cutStroke p = s := by
  unfold State.cutStroke
  split
  · next state _ => exact absurd state h
  · rfl

theorem cutStroke_noStroke {s : State} {p : Fin 4} (h : (s.press p).stroke = none) : s.cutStroke p = s := by
  unfold State.cutStroke
  split
  · next stroke => rw [h] at stroke; cases stroke
  · rfl

theorem cutStroke_stroke {s : State} {p : Fin 4} {k : Stroke} (h : (s.press p).state = .ejecting)
    (hk : (s.press p).stroke = some k) : s.cutStroke p = s.writeDemould p k.count false := by
  rw [State.cutStroke, h, hk]

theorem cutStroke_recordOnly (s : State) (p : Fin 4) : RecordOnly s (s.cutStroke p) := by
  unfold State.cutStroke
  split
  · exact RecordOnly.writeDemould ..
  · exact .refl s

theorem press_cutStroke (s : State) (p q : Fin 4) : (s.cutStroke p).press q = s.press q :=
  press_of_records (cutStroke_recordOnly s p) q

/-- The record of the part bound to press `p` as a stroke cut short writes it: with its demould summary. -/
def cutRecord (s : State) (p : Fin 4) (o : OpenRecord) : OpenRecord :=
  match (s.press p).state, (s.press p).stroke with
  | .ejecting, some k => { o with record := { o.record with demould := some ⟨k.count, false⟩ } }
  | _, _ => o

theorem cutRecord_other {s : State} {p : Fin 4} (h : (s.press p).state ≠ .ejecting) (o : OpenRecord) :
    cutRecord s p o = o := by
  unfold cutRecord
  split
  · next state _ => exact absurd state h
  · rfl

theorem cutRecord_noStroke {s : State} {p : Fin 4} (h : (s.press p).stroke = none) (o : OpenRecord) :
    cutRecord s p o = o := by
  unfold cutRecord
  split
  · next stroke => rw [h] at stroke; cases stroke
  · rfl

theorem cutRecord_stroke {s : State} {p : Fin 4} {k : Stroke} (h : (s.press p).state = .ejecting)
    (hk : (s.press p).stroke = some k) (o : OpenRecord) :
    cutRecord s p o = { o with record := { o.record with demould := some ⟨k.count, false⟩ } } := by
  rw [cutRecord, h, hk]

@[simp] theorem serial_cutRecord (s : State) (p : Fin 4) (o : OpenRecord) :
    (cutRecord s p o).record.serial = o.record.serial := by
  unfold cutRecord
  split <;> rfl

@[simp] theorem serial_leftRecord (s : State) (p : Fin 4) (o : OpenRecord) :
    (leftRecord s p o).record.serial = o.record.serial := by
  unfold leftRecord
  split <;> rfl

theorem openRecord_cutStroke {s : State} {p : Fin 4} {b : Bound} (bound : (s.press p).bound = some b) (serial : Nat) :
    (s.cutStroke p).image.openRecord serial =
      (s.image.openRecord serial).map fun o => if o.record.serial = b.serial then cutRecord s p o else o := by
  have same (e : ∀ o, cutRecord s p o = o) (h : s.cutStroke p = s) : (s.cutStroke p).image.openRecord serial =
      (s.image.openRecord serial).map fun o => if o.record.serial = b.serial then cutRecord s p o else o := by
    rw [h]
    simp [e]
  by_cases state : (s.press p).state = .ejecting
  · cases stroke : (s.press p).stroke with
    | none => exact same (cutRecord_noStroke stroke) (cutStroke_noStroke stroke)
    | some k =>
      rw [cutStroke_stroke state stroke, funext (cutRecord_stroke state stroke)]
      refine openRecord_writeBound bound ?_ serial
      exact fun _ => rfl
  · exact same (cutRecord_other state) (cutStroke_other state)

theorem ring_writeBound (s : State) (p : Fin 4) (f : OpenRecord → OpenRecord) :
    (s.writeBound p f).image.ring = s.image.ring := by
  unfold State.writeBound
  split <;> rfl

theorem ring_cutStroke (s : State) (p : Fin 4) : (s.cutStroke p).image.ring = s.image.ring := by
  unfold State.cutStroke
  split
  · exact ring_writeBound ..
  · rfl

/-! ## The presses a list of operations reaches (R72) -/

/-- From `s` to `t` the presses of a list have acted, each within its own reach: the others stand as they were, nothing
is lowered, no serial enters the table of open records, the records of the others' parts stand, and with room in the
ring for one record of each of `n` parts the records that were there stay. -/
structure Acted (ps : List (Fin 4)) (n : Nat) (s t : State) : Prop where
  eq : t = { s with heat := t.heat, presses := t.presses, image := t.image,
                    retained := { s.retained with generation := t.retained.generation }, link := t.link }
  press : ∀ q, q ∉ ps → t.press q = s.press q
  heat : ∀ q, q ∉ ps → t.pressHeat q = s.pressHeat q
  recipe : ∀ q, t.recipeOf q = s.recipeOf q
  pending : ∀ i k, k ∈ s.link.pending.get i → k ∈ t.link.pending.get i
  table : ∀ o ∈ t.image.openTable, ∃ q ∈ s.image.openTable, q.record.serial = o.record.serial
  found : ∀ serial, (∀ q ∈ ps, ∀ b, (s.press q).bound = some b → b.serial ≠ serial) →
    t.image.openRecord serial = s.image.openRecord serial
  ring : s.image.ring.count + n ≤ 1024 → s.image.ring.count ≤ t.image.ring.count ∧
    t.image.ring.count ≤ s.image.ring.count + n ∧
    ∀ k, k < s.image.ring.count → t.image.ring.record k = s.image.ring.record k

theorem recipeOf_of_records {s t : State} (h : RecordsKept s.image t.image) (p : Fin 4) :
    t.recipeOf p = s.recipeOf p := by
  unfold State.recipeOf
  rw [h.assigned, h.slots]

namespace Acted

variable {ps qs : List (Fin 4)} {m n : Nat} {p : Fin 4} {s t u : State}

theorem refl (ps : List (Fin 4)) (s : State) : Acted ps 0 s s :=
  ⟨rfl, fun _ _ => rfl, fun _ _ => rfl, fun _ => rfl, fun _ _ h => h, fun o ho => ⟨o, ho, rfl⟩, fun _ _ => rfl,
    fun _ => ⟨Nat.le_refl _, Nat.le_refl _, fun _ _ => rfl⟩⟩

theorem trans (h : Acted ps m s t) (k : Acted qs n t u) (apart : ∀ q ∈ qs, q ∉ ps) :
    Acted (ps ++ qs) (m + n) s u := by
  refine ⟨by rw [k.eq, h.eq], fun q hq => ?_, fun q hq => ?_, fun q => (k.recipe q).trans (h.recipe q),
    fun i j hj => k.pending i j (h.pending i j hj), fun o ho => ?_, fun serial other => ?_, fun room => ?_⟩
  · rw [List.mem_append, not_or] at hq
    exact (k.press q hq.2).trans (h.press q hq.1)
  · rw [List.mem_append, not_or] at hq
    exact (k.heat q hq.2).trans (h.heat q hq.1)
  · obtain ⟨q, hq, e⟩ := k.table o ho
    obtain ⟨w, hw, e'⟩ := h.table q hq
    exact ⟨w, hw, e'.trans e⟩
  · rw [k.found serial fun q hq b hb => ?_, h.found serial fun q hq => other q (List.mem_append_left _ hq)]
    rw [h.press q (apart q hq)] at hb
    exact other q (List.mem_append_right _ hq) b hb
  · obtain ⟨low, high, kept⟩ := h.ring (by omega)
    obtain ⟨low', high', kept'⟩ := k.ring (by omega)
    exact ⟨by omega, by omega, fun j hj => (kept' j (by omega)).trans (kept j hj)⟩

/-- One event is one change: the count of changes is not looked at. -/
theorem oneChange (h : Acted ps n s t) : Acted ps n s (oneChange s t) := by
  obtain ⟨eq, press, heat, recipe, pending, table, found, ring⟩ := h
  exact ⟨by rw [oneChange_eq, eq], fun q hq => by rw [State.press, oneChange_presses, ← State.press, press q hq],
    fun q hq => by rw [State.pressHeat, oneChange_heat, ← State.pressHeat, heat q hq],
    fun q => by rw [← recipe q, State.recipeOf, oneChange_image]; rfl, by rw [oneChange_link]; exact pending,
    by rw [oneChange_image]; exact table, by rw [oneChange_image]; exact found, by rw [oneChange_image]; exact ring⟩

/-- What a press alone can reach, with what it does to the records. -/
theorem of_press (only : PressOnly p s t) (pending : ∀ i k, k ∈ s.link.pending.get i → k ∈ t.link.pending.get i)
    (table : ∀ o ∈ t.image.openTable, ∃ q ∈ s.image.openTable, q.record.serial = o.record.serial)
    (found : ∀ serial, (∀ b, (s.press p).bound = some b → b.serial ≠ serial) →
      t.image.openRecord serial = s.image.openRecord serial)
    (ring : s.image.ring.count + n ≤ 1024 → s.image.ring.count ≤ t.image.ring.count ∧
      t.image.ring.count ≤ s.image.ring.count + n ∧
      ∀ k, k < s.image.ring.count → t.image.ring.record k = s.image.ring.record k) : Acted [p] n s t :=
  ⟨only.eq, fun q hq => only.others q (by simpa using hq), fun q hq => only.otherHeat q (by simpa using hq),
    recipeOf_of_records only.records, pending, table,
    fun serial other => found serial (other p (List.mem_singleton_self p)), ring⟩

end Acted

/-! ## One press in FAULT (R72, R93, R96) -/

theorem serials_writeBound (s : State) (p : Fin 4) {f : OpenRecord → OpenRecord}
    (hf : ∀ o, (f o).record.serial = o.record.serial) :
    ∀ o ∈ (s.writeBound p f).image.openTable, ∃ q ∈ s.image.openTable, q.record.serial = o.record.serial := by
  intro o ho
  unfold State.writeBound at ho
  split at ho
  · next b _ =>
    obtain ⟨q, hq, rfl⟩ := List.mem_map.mp ho
    refine ⟨q, hq, ?_⟩
    split
    · exact (hf q).symm
    · rfl
  · exact ⟨o, ho, rfl⟩

theorem serials_leaveCuring (s : State) (p : Fin 4) :
    ∀ o ∈ (s.leaveCuring p).image.openTable, ∃ q ∈ s.image.openTable, q.record.serial = o.record.serial := by
  unfold State.leaveCuring
  split
  · exact serials_writeBound _ p fun _ => rfl
  · exact fun o ho => ⟨o, ho, rfl⟩

theorem serials_cutStroke (s : State) (p : Fin 4) :
    ∀ o ∈ (s.cutStroke p).image.openTable, ∃ q ∈ s.image.openTable, q.record.serial = o.record.serial := by
  unfold State.cutStroke
  split
  · exact serials_writeBound s p fun _ => rfl
  · exact fun o ho => ⟨o, ho, rfl⟩

theorem serials_enterFault (s : State) (p : Fin 4) (c : PressFault) :
    ∀ o ∈ (s.enterFault p c).image.openTable, ∃ q ∈ s.image.openTable, q.record.serial = o.record.serial := by
  intro o ho
  cases bound : (s.press p).bound with
  | none =>
    rw [(image_enterFault_unbound bound c).1] at ho
    exact ⟨o, ho, rfl⟩
  | some b =>
    rw [image_enterFault_bound bound, openTable_closeRecord] at ho
    exact serials_leaveCuring s p o (List.mem_of_mem_filter ho)

theorem link_leaveCuring (s : State) (p : Fin 4) : (s.leaveCuring p).link = s.link := by
  unfold State.leaveCuring
  split
  · exact HeaterPower.writeBound_link ..
  · rfl

theorem link_closeBound (s : State) (p : Fin 4) (d : Disposition) (c : Option PressFault) :
    (s.closeBound p d c).link = s.link := by
  unfold State.closeBound
  split
  · exact link_closeRecord ..
  · rfl

/-- Entering FAULT raises PRESS_FAULT, and nothing else. -/
theorem mem_enterFault (s : State) (p : Fin 4) (c : PressFault) (i : Fin 6) (k : EventKind) :
    k ∈ (s.enterFault p c).link.pending.get i ↔
      k ∈ s.link.pending.get i ∨ i = (Source.press p).index ∧ k = .pressFault := by
  rw [enterFault_steps, mem_raise, link_closeBound, State.modPress_link, link_leaveCuring]

/-- A closing leaves every other record to be found as it was. -/
theorem openRecord_closeRecord_other (s : State) {serial n : Nat} (h : serial ≠ n) (d : Disposition)
    (c : Option PressFault) : (s.closeRecord serial d c).image.openRecord n = s.image.openRecord n := by
  rw [Image.openRecord, openTable_closeRecord, List.find?_filter, Image.openRecord]
  congr 1
  funext o
  by_cases e : o.record.serial = n
  · simp [e, Ne.symm h]
  · simp [e]

/-- A write into one record leaves every other to be found as it was. -/
theorem map_other {m : Image} {serial n : Nat} (h : serial ≠ n) (f : OpenRecord → OpenRecord) :
    ((m.openRecord n).map fun o => if o.record.serial = serial then f o else o) = m.openRecord n := by
  cases found : m.openRecord n with
  | none => rfl
  | some o => rw [Option.map_some, if_neg (by rw [serial_of_openRecord found]; exact h.symm)]

theorem openRecord_enterFault_other {s : State} {p : Fin 4} {n : Nat}
    (h : ∀ b, (s.press p).bound = some b → b.serial ≠ n) (c : PressFault) :
    (s.enterFault p c).image.openRecord n = s.image.openRecord n := by
  cases bound : (s.press p).bound with
  | none => rw [(image_enterFault_unbound bound c).1]
  | some b =>
    rw [image_enterFault_bound bound, openRecord_closeRecord_other _ (h b bound), openRecord_leaveCuring bound,
      map_other (h b bound)]

theorem openRecord_cutStroke_other {s : State} {p : Fin 4} {n : Nat}
    (h : ∀ b, (s.press p).bound = some b → b.serial ≠ n) :
    (s.cutStroke p).image.openRecord n = s.image.openRecord n := by
  cases bound : (s.press p).bound with
  | none =>
    unfold State.cutStroke
    split
    · rw [State.writeDemould, writeBound_unbound bound]
    · rfl
  | some b => rw [openRecord_cutStroke bound, map_other (h b bound)]

theorem ring_enterFault (s : State) (p : Fin 4) (c : PressFault) (room : s.image.ring.count + 1 ≤ 1024) :
    s.image.ring.count ≤ (s.enterFault p c).image.ring.count ∧
      (s.enterFault p c).image.ring.count ≤ s.image.ring.count + 1 ∧
      ∀ k, k < s.image.ring.count → (s.enterFault p c).image.ring.record k = s.image.ring.record k := by
  cases bound : (s.press p).bound with
  | none =>
    rw [(image_enterFault_unbound bound c).1]
    exact ⟨Nat.le_refl _, Nat.le_succ _, fun _ _ => rfl⟩
  | some b =>
    cases found : s.image.openRecord b.serial with
    | none =>
      have absent : (s.leaveCuring p).image.openRecord b.serial = none := by
        rw [openRecord_leaveCuring bound, found]; rfl
      rw [image_enterFault_bound bound, closeRecord_absent absent, image_leaveCuring]
      exact ⟨Nat.le_refl _, Nat.le_succ _, fun _ _ => rfl⟩
    | some o =>
      obtain ⟨-, count, kept, -⟩ := enterFault_closes bound found room c
      exact ⟨by omega, by omega, kept⟩

/-! ## The guard (R72, R93) -/

theorem moving_iff (x : PressState) :
    x.moving = true ↔ x ∈ [PressState.closing, .curing, .opening, .ejecting] := by
  cases x <;> simp [PressState.moving]

theorem still_iff (x : PressState) :
    x.moving = false ↔ x ∈ [PressState.idle, .loaded, .unload, .fault] := by
  cases x <;> simp [PressState.moving]

/-- What one press does as the guard falls, counted as one change of its own (log entry 8). -/
def guardStep (s : State) (p : Fin 4) : State := oneChange s (s.guardAt p)

theorem guardStep_still {s : State} {p : Fin 4} (h : (s.press p).state.moving = false) : guardStep s p = s := by
  have still : s.guardAt p = s := if_neg (Bool.eq_false_iff.mp h)
  rw [guardStep, still, oneChange_self]

theorem guardStep_moving {s : State} {p : Fin 4} (h : (s.press p).state.moving = true) :
    guardStep s p = oneChange s ((s.cutStroke p).enterFault p .guard) := congrArg (oneChange s) (if_pos h)

/-- One for a press that moves. -/
def parts (s : State) (ps : List (Fin 4)) : Nat := (ps.filter fun q => (s.press q).state.moving).length

theorem acted_guardStep (s : State) (p : Fin 4) : Acted [p] (parts s [p]) s (guardStep s p) := by
  cases h : (s.press p).state.moving with
  | false =>
    have none : parts s [p] = 0 := by simp [parts, h]
    rw [guardStep_still h, none]
    exact .refl _ s
  | true =>
    have one : parts s [p] = 1 := by simp [parts, h]
    have cut := cutStroke_recordOnly s p
    have press := press_cutStroke s p
    rw [guardStep_moving h, one]
    refine .oneChange (.of_press ((PressOnly.cutStroke s).trans (.enterFault _ _)) (fun i k hk => ?_) (fun o ho => ?_)
      (fun serial other => ?_) fun room => ?_)
    · rw [mem_enterFault, cut.eq]
      exact .inl hk
    · obtain ⟨q, hq, e⟩ := serials_enterFault _ p .guard o ho
      obtain ⟨w, hw, e'⟩ := serials_cutStroke s p q hq
      exact ⟨w, hw, e'.trans e⟩
    · rw [openRecord_enterFault_other (by rw [press]; exact other), openRecord_cutStroke_other other]
    · rw [← ring_cutStroke s p] at room ⊢
      exact ring_enterFault _ p .guard room

/-- The guard falls at each press of a list, one after another. -/
theorem acted_guardSteps (ps : List (Fin 4)) (distinct : ps.Nodup) (s : State) :
    Acted ps (parts s ps) s (ps.foldl guardStep s) := by
  induction ps generalizing s with
  | nil => exact .refl [] s
  | cons p ps ih =>
    obtain ⟨fresh, distinct⟩ := List.nodup_cons.mp distinct
    have first := acted_guardStep s p
    have later : parts (guardStep s p) ps = parts s ps := by
      refine congrArg List.length (List.filter_congr fun q hq => ?_)
      rw [first.press q (by rintro h; obtain rfl := List.mem_singleton.mp h; exact fresh hq)]
    have count : parts s (p :: ps) = parts s [p] + parts s ps := by
      rw [parts, ← List.singleton_append, List.filter_append, List.length_append]; rfl
    have rest := ih distinct (guardStep s p)
    rw [later] at rest
    rw [count]
    refine first.trans rest fun q hq h => ?_
    obtain rfl := List.mem_singleton.mp h
    exact fresh hq

/-- One press of the list: what has acted before it, and what acts after it. -/
theorem guardSteps_split {ps : List (Fin 4)} (distinct : ps.Nodup) {q : Fin 4} (hq : q ∈ ps) (s : State) :
    ∃ before after u, Acted before (parts s before) s u ∧
      Acted after (parts s after) (guardStep u q) (ps.foldl guardStep s) ∧ q ∉ before ∧ q ∉ after ∧
      parts s before + parts s [q] + parts s after = parts s ps := by
  obtain ⟨before, after, rfl⟩ := List.append_of_mem hq
  obtain ⟨distinctBefore, distinctAfter, apart⟩ := List.nodup_append.mp distinct
  obtain ⟨fresh, distinctAfter⟩ := List.nodup_cons.mp distinctAfter
  have notBefore : q ∉ before := fun h => apart q h q (List.mem_cons_self ..) rfl
  have first := acted_guardSteps before distinctBefore s
  have step := acted_guardStep (before.foldl guardStep s) q
  have last := acted_guardSteps after distinctAfter (guardStep (before.foldl guardStep s) q)
  have unmoved : parts (guardStep (before.foldl guardStep s) q) after = parts s after := by
    refine congrArg List.length (List.filter_congr fun w hw => ?_)
    have notYet : w ∉ before := fun h => apart w h w (List.mem_cons_of_mem _ hw) rfl
    rw [step.press w (by rintro h; obtain rfl := List.mem_singleton.mp h; exact fresh hw), first.press w notYet]
  rw [unmoved] at last
  refine ⟨before, after, _, first, ?_, notBefore, fresh, ?_⟩
  · rw [List.foldl_append]
    exact last
  · simp only [parts, List.filter_append, List.length_append, ← List.singleton_append (l := after), Nat.add_assoc]

/-- A press that moves is in FAULT, empty and safe, and says so; its profile is told to open if it was curing. -/
theorem guardStep_faults {s : State} {p : Fin 4} (h : (s.press p).state.moving = true) :
    ((guardStep s p).press p).state = .fault ∧ ((guardStep s p).press p).cause = some .guard ∧
      ((guardStep s p).press p).bound = none ∧ ((guardStep s p).press p).valves = ⟨false, false, false⟩ ∧
      EventKind.pressFault ∈ (guardStep s p).link.pending.get (Source.press p).index := by
  obtain ⟨cure, press⟩ := press_enterFault (s.cutStroke p) p .guard
  have press' : (guardStep s p).press p = ((s.cutStroke p).enterFault p .guard).press p := by
    rw [guardStep_moving h, State.press, oneChange_presses, ← State.press]
  rw [press', press]
  refine ⟨rfl, rfl, rfl, rfl, ?_⟩
  rw [guardStep_moving h, oneChange_link]
  exact pressFault_mem_enterFault ..

theorem guardStep_heat (s : State) (p : Fin 4) :
    (guardStep s p).pressHeat p =
      if (s.press p).state = .curing then
        { s.pressHeat p with profile := { (s.pressHeat p).profile with openMark := true } }
      else s.pressHeat p := by
  cases h : (s.press p).state.moving with
  | false =>
    have notCuring : (s.press p).state ≠ .curing := fun e => by rw [e] at h; cases h
    rw [guardStep_still h, if_neg notCuring]
  | true =>
    have heat : (s.cutStroke p).heat = s.heat := by rw [(cutStroke_recordOnly s p).eq]
    rw [guardStep_moving h, State.pressHeat, oneChange_heat, heat_enterFault, heat_leaveCuring, press_cutStroke, heat]
    split
    · exact Tab.get_modify_same ..
    · rfl

theorem verdictNow_congr {s u : State} {p : Fin 4} (press : u.press p = s.press p)
    (recipe : u.recipeOf p = s.recipeOf p) : verdictNow u p = verdictNow s p := by
  rw [verdictNow, verdictNow, overcureOf, overcureOf, press, recipe]

theorem leftRecord_congr {s u : State} {p : Fin 4} (press : u.press p = s.press p)
    (recipe : u.recipeOf p = s.recipeOf p) (o : OpenRecord) : leftRecord u p o = leftRecord s p o := by
  rw [leftRecord, leftRecord, verdictNow_congr press recipe, press]

theorem cutRecord_congr {s u : State} {p : Fin 4} (press : u.press p = s.press p) (o : OpenRecord) :
    cutRecord u p o = cutRecord s p o := by
  rw [cutRecord, cutRecord, press]

/-- The record that the guard closes: a stroke cut short and a verdict are written before (R93, R114). -/
def guardRecord (s : State) (p : Fin 4) (o : OpenRecord) : Record :=
  (leftRecord s p (cutRecord s p o)).record.closed .scrapFault (some .guard) s.clock.stamp

theorem guardStep_closes {s : State} {p : Fin 4} {b : Bound} {o : OpenRecord}
    (h : (s.press p).state.moving = true) (bound : (s.press p).bound = some b)
    (found : s.image.openRecord b.serial = some o) (room : s.image.ring.count < 1024) :
    (∀ q ∈ (guardStep s p).image.openTable, q.record.serial ≠ b.serial) ∧
      (guardStep s p).image.ring.count = s.image.ring.count + 1 ∧
      (guardStep s p).image.ring.record s.image.ring.count = some (guardRecord s p o) := by
  have cut := cutStroke_recordOnly s p
  have press := press_cutStroke s p p
  have clock : (s.cutStroke p).clock = s.clock := by rw [cut.eq]
  have recorded : (s.cutStroke p).image.openRecord b.serial = some (cutRecord s p o) := by
    rw [openRecord_cutStroke bound, found, Option.map_some, if_pos (serial_of_openRecord found)]
  obtain ⟨gone, count, -, closed⟩ := enterFault_closes (s := s.cutStroke p) (by rw [press]; exact bound) recorded
    (by rw [ring_cutStroke]; exact room) .guard
  rw [ring_cutStroke] at count closed
  rw [leftRecord_congr press (recipeOf_of_records cut.image p), clock] at closed
  rw [guardStep_moving h, oneChange_image]
  exact ⟨gone, count, closed⟩

/-- Each record the guard closes enters the ring, and its serial leaves the table, wherever its press stands in the
list. -/
theorem guardSteps_closes {ps : List (Fin 4)} (distinct : ps.Nodup) {s : State} {q : Fin 4} (hq : q ∈ ps)
    (h : (s.press q).state.moving = true)
    (serials : ∀ q w b c, (s.press q).bound = some b → (s.press w).bound = some c → b.serial = c.serial → q = w)
    (room : s.image.ring.count + parts s ps ≤ 1024) {b : Bound} {o : OpenRecord} (bound : (s.press q).bound = some b)
    (found : s.image.openRecord b.serial = some o) :
    (∀ w ∈ (ps.foldl guardStep s).image.openTable, w.record.serial ≠ b.serial) ∧
      ∃ k, s.image.ring.count ≤ k ∧ k < (ps.foldl guardStep s).image.ring.count ∧
        (ps.foldl guardStep s).image.ring.record k = some (guardRecord s q o) := by
  obtain ⟨before, after, u, first, last, notBefore, notAfter, count⟩ := guardSteps_split distinct hq s
  have one : parts s [q] = 1 := by simp [parts, h]
  have press := first.press q notBefore
  have clock : u.clock = s.clock := by rw [first.eq]
  obtain ⟨low, high, -⟩ := first.ring (by omega)
  have found' : u.image.openRecord b.serial = some o := by
    rw [first.found b.serial fun w hw c hc e => notBefore ?_, found]
    rw [serials q w b c bound hc e.symm]
    exact hw
  obtain ⟨gone, grown, closed⟩ := guardStep_closes (s := u) (by rw [press]; exact h) (by rw [press]; exact bound)
    found' (by omega)
  obtain ⟨low', high', kept⟩ := last.ring (by omega)
  have record : guardRecord u q o = guardRecord s q o := by
    rw [guardRecord, guardRecord, cutRecord_congr press, leftRecord_congr press (first.recipe q), clock]
  refine ⟨fun w hw => ?_, u.image.ring.count, low, by omega, ?_⟩
  · obtain ⟨x, hx, e⟩ := last.table w hw
    rw [← e]
    exact gone x hx
  · rw [kept _ (by omega), closed, record]

/-- A press that moves, wherever it stands in the list: in FAULT, empty and safe, and PRESS_FAULT is raised. -/
theorem guardSteps_faults {ps : List (Fin 4)} (distinct : ps.Nodup) {s : State} {q : Fin 4} (hq : q ∈ ps)
    (h : (s.press q).state.moving = true) :
    ((ps.foldl guardStep s).press q).state = .fault ∧ ((ps.foldl guardStep s).press q).cause = some .guard ∧
      ((ps.foldl guardStep s).press q).bound = none ∧
      ((ps.foldl guardStep s).press q).valves = ⟨false, false, false⟩ ∧
      EventKind.pressFault ∈ (ps.foldl guardStep s).link.pending.get (Source.press q).index := by
  obtain ⟨before, after, u, first, last, notBefore, notAfter, -⟩ := guardSteps_split distinct hq s
  obtain ⟨state, cause, bound, valves, pending⟩ := guardStep_faults (s := u) (by
    rw [first.press q notBefore]; exact h)
  rw [last.press q notAfter]
  exact ⟨state, cause, bound, valves, last.pending _ _ pending⟩

theorem guardSteps_still {ps : List (Fin 4)} (distinct : ps.Nodup) {s : State} {q : Fin 4} (hq : q ∈ ps)
    (h : (s.press q).state.moving = false) : (ps.foldl guardStep s).press q = s.press q := by
  obtain ⟨before, after, u, first, last, notBefore, notAfter, -⟩ := guardSteps_split distinct hq s
  rw [last.press q notAfter, guardStep_still (s := u) (by rw [first.press q notBefore]; exact h),
    first.press q notBefore]

theorem guardSteps_heat {ps : List (Fin 4)} (distinct : ps.Nodup) (s : State) {q : Fin 4} (hq : q ∈ ps) :
    (ps.foldl guardStep s).pressHeat q =
      if (s.press q).state = .curing then
        { s.pressHeat q with profile := { (s.pressHeat q).profile with openMark := true } }
      else s.pressHeat q := by
  obtain ⟨before, after, u, first, last, notBefore, notAfter, -⟩ := guardSteps_split distinct hq s
  rw [last.heat q notAfter, guardStep_heat, first.press q notBefore, first.heat q notBefore]

end Sys2Proof.Machine.PressCycle

/-!
PROOF. Timers, the guard and drift (O40).
-/

namespace Sys2Proof.Machine.PressCycle

open ChargeWeighing

/-! ## What settling keeps (R71) -/

/-- What every condition met keeps, settling keeps. -/
theorem settled_induction {p : Fin 4} {P : State → Prop} (step : ∀ u t, P u → u.pressCondition p = some t → P t)
    {s : State} (h : P s) : P (s.settled p) := by
  unfold State.settled
  generalize 8 = n
  induction n generalizing s with
  | zero => exact h
  | succ n ih =>
    cases e : s.pressCondition p with
    | none => rw [settlePress_none _ e]; exact h
    | some t => rw [settlePress_some n e]; exact ih (step s t h e)

/-- A condition met leaves the levels as they are. -/
theorem inputs_condition {s t : State} {p : Fin 4} (h : s.pressCondition p = some t) : t.inputs = s.inputs := by
  rw [(PressOnly.pressCondition h).eq]

/-- A press on its way to the cure, or in it, faults on no level (R82, R84). -/
theorem settled_curing {s : State} {p : Fin 4} (h : (s.press p).state ∈ [PressState.closing, .curing]) :
    ((s.settled p).press p).state ∈ [PressState.closing, .curing] ∧
      ((s.settled p).press p).cause = (s.press p).cause := by
  refine settled_induction (p := p) (P := fun u => (u.press p).state ∈ [PressState.closing, .curing] ∧
    (u.press p).cause = (s.press p).cause) (fun u t ⟨state, cause⟩ met => ?_) ⟨h, rfl⟩
  simp only [List.mem_cons, List.not_mem_nil, or_false] at state
  rcases state with state | state
  · rw [condition_closing state] at met
    split at met <;> cases met
    rw [press_enterCuring]
    exact ⟨by simp [Press.enter], cause⟩
  · rw [condition_curing state] at met
    split at met <;> split at met <;> cases met
    · rw [State.press_modPress]
      exact ⟨by simp [state], cause⟩
    · rw [press_beginDip]
      exact ⟨by simp [state], cause⟩

/-- A stroke whose back phase has not ended stays a stroke (R91). -/
theorem settled_away {s : State} {p : Fin 4} (h : (s.press p).state = .ejecting)
    (away : (s.inputs.presses.get p).ejectHome = false) :
    ((s.settled p).press p).state = .ejecting ∧ ((s.settled p).press p).cause = (s.press p).cause := by
  have kept := settled_induction (p := p) (s := s) (P := fun u => (u.press p).state = .ejecting ∧
    (u.press p).cause = (s.press p).cause ∧ u.inputs = s.inputs) (fun u t ⟨state, cause, inputs⟩ met => ?_)
    ⟨h, rfl, rfl⟩
  · obtain ⟨state, cause, -⟩ := kept
    exact ⟨state, cause⟩
  have same := (inputs_condition met).trans inputs
  cases stroke : (u.press p).stroke with
  | none => rw [condition_noStroke state stroke] at met; cases met
  | some k =>
    obtain ⟨k, phase⟩ := k
    cases phase with
    | out =>
      rw [condition_strokeOut state stroke] at met
      split at met <;> cases met
      obtain ⟨n, press⟩ := press_strokeBack u p k
      rw [press]
      exact ⟨rfl, cause, same⟩
    | back =>
      rw [condition_strokeBack state stroke, inputs, away] at met
      cases met

/-- A stroke that does not free the part leads to another stroke or to a stuck part, never to a drift (R92). -/
theorem settled_held {s : State} {p : Fin 4} (h : (s.press p).state = .ejecting)
    (held : (s.inputs.presses.get p).partFree = false) (cause : (s.press p).cause ≠ some .drift) :
    ((s.settled p).press p).cause ≠ some .drift := by
  have kept := settled_induction (p := p) (s := s) (P := fun u => ((u.press p).state = .ejecting ∨
    (u.press p).state = .fault) ∧ (u.press p).cause ≠ some .drift ∧ u.inputs = s.inputs)
    (fun u t ⟨state, cause, inputs⟩ met => ?_) ⟨.inl h, cause, rfl⟩
  · obtain ⟨-, cause, -⟩ := kept
    exact cause
  have same := (inputs_condition met).trans inputs
  rcases state with state | state
  · cases stroke : (u.press p).stroke with
    | none => rw [condition_noStroke state stroke] at met; cases met
    | some k =>
      obtain ⟨k, phase⟩ := k
      cases phase with
      | out =>
        rw [condition_strokeOut state stroke] at met
        split at met <;> cases met
        obtain ⟨n, press⟩ := press_strokeBack u p k
        rw [press]
        exact ⟨.inl rfl, cause, same⟩
      | back =>
        rw [condition_strokeBack state stroke] at met
        split at met <;> cases met
        rw [← inputs] at held
        by_cases more : k < u.recipeFigure p Recipe.demouldTries
        · rw [endStroke_again held more] at same ⊢
          obtain ⟨n, press⟩ := press_beginStroke (u.modPress p fun x => { x with strokeTimer := none }) p (k + 1)
          rw [press, State.press_modPress]
          exact ⟨.inl rfl, cause, same⟩
        · rw [endStroke_stuck held more] at same ⊢
          exact ⟨.inr (state_enterFault ..), by rw [cause_enterFault]; decide, same⟩
  · rw [condition_fault state] at met
    cases met

/-- A stroke that ends with the part free and the mould no longer open: UNLOAD, and DRIFT there (R92, R95). -/
theorem settled_freed {s : State} {p : Fin 4} {k : Nat} (h : (s.press p).state = .ejecting)
    (back : (s.press p).stroke = some ⟨k, .back⟩) (home : (s.inputs.presses.get p).ejectHome = true)
    (free : (s.inputs.presses.get p).partFree = true) (closed : (s.inputs.presses.get p).openLimit = false) :
    ((s.settled p).press p).state = .fault ∧ ((s.settled p).press p).cause = some .drift := by
  have first := condition_strokeBack h back
  rw [if_pos home] at first
  have unload : ((s.endStroke p k).press p).state = .unload := by
    rw [endStroke_free free, press_enterUnload]
    rfl
  have second := condition_still (s := s.endStroke p k) (p := p) (by simp [unload])
  rw [inputs_condition first, closed] at second
  have drift : s.settled p = (s.endStroke p k).enterFault p .drift := by
    rw [State.settled, settlePress_some 7 first, settlePress_some 6 second,
      settlePress_none 6 (condition_fault (state_enterFault ..))]
  rw [drift]
  exact ⟨state_enterFault .., cause_enterFault ..⟩

/-! ## The record that the guard closes (R93, R114) -/

/-- The fields of the record, spelt out: as it stood, but for the verdict of a cure ended or the summary of a stroke cut
short. -/
theorem guardRecord_eq {s : State} {q : Fin 4} (o : OpenRecord) {cure : Option CureSummary} {demould : Option Demould}
    (cureKept : (s.press q).state ≠ .curing → cure = o.record.cure)
    (cureEnded : (s.press q).state = .curing → ∃ r, s.recipeOf q = some r ∧
      cure = o.record.cure.map fun u => { u with verdict := some ((s.press q).cure.verdictFor r.overcure) })
    (demouldKept : (s.press q).state ≠ .ejecting → demould = o.record.demould)
    (cut : (s.press q).state = .ejecting →
      ∃ k, (s.press q).stroke = some k ∧ demould = some ⟨k.count, false⟩) :
    guardRecord s q o =
      { o.record with
        cure := cure, demould := demould, disposition := some .scrapFault, cause := some .guard,
        closingTime := s.clock.stamp } := by
  by_cases curing : (s.press q).state = .curing
  · have notEjecting : (s.press q).state ≠ .ejecting := by rw [curing]; decide
    obtain ⟨r, recipe, rfl⟩ := cureEnded curing
    rw [guardRecord, cutRecord_other notEjecting, leftRecord, if_pos curing, demouldKept notEjecting, verdictNow,
      overcureOf_eq recipe]
    rfl
  rw [guardRecord, leftRecord, if_neg curing, cureKept curing]
  by_cases ejecting : (s.press q).state = .ejecting
  · obtain ⟨k, stroke, rfl⟩ := cut ejecting
    rw [cutRecord_stroke ejecting stroke]
    rfl
  · rw [cutRecord_other ejecting, demouldKept ejecting]
    rfl

/-! ## The statement -/

/-- An expiry that finds its timer running, or does nothing. -/
theorem plantEvent_if {s : State} (hr : s.phase = .running) {c : Prop} [Decidable c] (act : State → State)
    (t : State) (h : act s = if c then t else s) : plantEvent s act = (if c then oneChange s t else s).pump := by
  rw [plantEvent, if_pos hr, h]
  split
  · rfl
  · rw [oneChange_self]

/-- Settles O40: the timers, the guard, the summary of a stroke, drift, and the key. -/
theorem driftTimersAndTheGuardFaultAPress : Obligations.DriftTimersAndTheGuardFaultAPress := by
  unfold Obligations.DriftTimersAndTheGuardFaultAPress
  refine ⟨fun s p hr => ⟨?_, ?_, fun k ejecting stroke runs => ?_, fun other => ?_, ?_, ?_⟩,
    fun s p b strokes free bound => writeDemould_eq bound strokes free, ⟨fun s p levels guardRise hr => ?_,
    fun s p => ⟨settled_none, fun t => settled_once, condition_fault⟩, fun s level => rfl⟩⟩
  · refine congrArg Host.Outcome.next (plantEvent_if hr _ _ ?_)
    simp only [State.closeExpires, Option.isSome_iff_ne_none]
  · refine congrArg Host.Outcome.next (plantEvent_if hr _ _ ?_)
    simp only [State.openExpires, Option.isSome_iff_ne_none]
  · refine congrArg Host.Outcome.next ?_
    have act : s.strokeExpires p = (s.cutStroke p).enterFault p .ejectTimeout :=
      if_pos ⟨ejecting, Option.isSome_iff_ne_none.mpr runs⟩
    rw [plantEvent, if_pos hr, act, cutStroke_stroke ejecting stroke]
  · have act : s.strokeExpires p = s := if_neg fun h => other h.1
    exact congrArg Host.Outcome.next ((plantEvent_aside hr (by rw [act])).trans (by rw [act]))
  · exact congrArg Host.Outcome.next (plantEvent_aside hr rfl)
  · intro faulted fallen t moving
    have step (t : State) (q : Fin 4) : faulted t q = guardStep t q := by
      by_cases cycle : (t.press q).state = .closing ∨ (t.press q).state = .curing ∨ (t.press q).state = .opening
      · have moves : (t.press q).state.moving = true := by
          rcases cycle with h | h | h <;> rw [h] <;> rfl
        rw [guardStep_moving moves, cutStroke_other (by rcases cycle with h | h | h <;> simp [h])]
        exact if_pos cycle
      by_cases ejecting : (t.press q).state = .ejecting
      · refine ((if_neg cycle).trans (if_pos ejecting)).trans ?_
        rw [guardStep_moving (by rw [ejecting]; rfl)]
        cases stroke : (t.press q).stroke with
        | none => rw [cutStroke_noStroke stroke]
        | some k => rw [cutStroke_stroke ejecting stroke]
      · have still : (t.press q).state.moving = false := by
          cases h : (t.press q).state <;> simp_all [PressState.moving]
        rw [guardStep_still still]
        exact (if_neg cycle).trans (if_neg ejecting)
    have fell : t = ((List.finRange 4).foldl guardStep fallen).pump := by
      have four : List.finRange 4 = [0, 1, 2, 3] := rfl
      simp only [t, step, four, List.foldl_cons, List.foldl_nil]
    have event : exec .guardOkFall s = .next t := by
      rw [fell]
      exact congrArg Host.Outcome.next (if_pos hr)
    have distinct := List.nodup_finRange 4
    have acted := acted_guardSteps (List.finRange 4) distinct fallen
    have press (q : Fin 4) : t.press q = ((List.finRange 4).foldl guardStep fallen).press q := by
      rw [fell, State.press, State.pump_presses, ← State.press]
    have count : moving.length = parts fallen (List.finRange 4) :=
      congrArg List.length (List.filter_congr fun q _ => by rw [Bool.eq_iff_iff, decide_eq_true_iff, moving_iff]; rfl)
    refine ⟨event, ?_, ?_, ?_, ?_, ?_, ?_, ?_, fun q => ⟨fun moves => ?_, fun rests => ?_, ?_⟩,
      fun serials room => ?_⟩
    iterate 7 · rw [fell]; simp only [State.pump_lines, State.pump_inputs, State.pump_zones, State.pump_alloc,
        State.pump_station, State.pump_clock, State.pump_phase]; rw [acted.eq]
    · obtain ⟨state, cause, bound, valves, pending⟩ := guardSteps_faults (s := fallen) distinct (List.mem_finRange q)
        ((moving_iff _).mpr moves)
      rw [press, fell, pump_pending_sets]
      exact ⟨state, cause, bound, valves, pending⟩
    · rw [press]
      exact guardSteps_still (s := fallen) distinct (List.mem_finRange q) ((still_iff _).mpr rests)
    · rw [fell, State.pressHeat, State.pump_heat]
      exact guardSteps_heat distinct fallen (List.mem_finRange q)
    · have room' : fallen.image.ring.count + parts fallen (List.finRange 4) ≤ 1024 := by rw [← count]; exact room
      obtain ⟨-, -, kept⟩ := acted.ring room'
      have image : t.image = ((List.finRange 4).foldl guardStep fallen).image := by rw [fell, State.pump_image]
      rw [image]
      refine ⟨kept, fun q hq b o cure demould bound found cureKept cureEnded demouldKept cut => ?_⟩
      have moves : (s.press q).state.moving = true := (moving_iff _).mpr (by simpa [moving] using hq)
      obtain ⟨gone, k, low, high, closed⟩ := guardSteps_closes (s := fallen) distinct (List.mem_finRange q) moves
        serials room' bound found
      refine ⟨gone, k, low, high, closed.trans (congrArg some ?_)⟩
      exact guardRecord_eq (s := fallen) o cureKept cureEnded demouldKept cut
  · intro l u
    have level : u.inputs.presses.get p = l := heard_levels s p l guardRise
    have event : exec (.openLimitDrift p levels guardRise) s = .next (oneChange s (u.settled p)).pump :=
      congrArg Host.Outcome.next (inputEvent_eq hr p l guardRise)
    refine ⟨fun still => ?_, fun other => ?_, ?_⟩
    · have drift := condition_still (s := u) still
      rw [level] at drift
      rw [event, settled_enterFault (drift.trans (if_neg Bool.false_ne_true))]
    · have none : u.pressCondition p = none := by
        simp only [List.mem_cons, List.not_mem_nil, or_false] at other
        rcases other with fault | opening
        · exact condition_fault (s := u) fault
        · rw [condition_opening (s := u) opening, level]
          rfl
      exact congrArg Host.Outcome.next (inputEvent_none hr none)
    intro t
    have press : t.press p = (u.settled p).press p := by
      rw [State.press, State.pump_presses, oneChange_presses, ← State.press]
    refine ⟨fun _ => event, fun state => ?_, fun state away => ?_, fun state held cause => ?_,
      fun k state back home free => ?_⟩
    · rw [press]
      exact settled_curing (s := u) state
    · rw [press]
      exact settled_away (s := u) state (by rw [level]; exact away)
    · rw [press]
      exact settled_held (s := u) state (by rw [level]; exact held) cause
    · rw [press]
      exact settled_freed (s := u) state back (by rw [level]; exact home) (by rw [level]; exact free) (by rw [level])

end Sys2Proof.Machine.PressCycle

/-!
PROOF. Cycles cut short, and the power fall (O20).
-/

namespace Sys2Proof.Machine.PressCycle

open ChargeWeighing

/-! ## One press cut short (R114, R116, R127) -/

/-- The press as it is cut short: its cure, if it is in CURING, ends with a verdict. -/
def cutPress (s : State) (p : Fin 4) : Press :=
  if (s.press p).state = .curing then
    { s.press p with cure := { (s.press p).cure with verdict := some (verdictNow s p) } }
  else s.press p

/-- What cutting press `p` short makes of an open record: its own part's gets the verdict or the demould summary. -/
def cutOpen (s : State) (p : Fin 4) (o : OpenRecord) : OpenRecord :=
  match (s.press p).bound with
  | some b => if o.record.serial = b.serial then leftRecord s p (cutRecord s p o) else o
  | none => o

/-- Cutting press `p` short writes into a record. -/
def cutWrites (s : State) (p : Fin 4) : Bool :=
  (s.press p).bound.isSome &&
    (decide ((s.press p).state = .curing) || (decide ((s.press p).state = .ejecting) && (s.press p).stroke.isSome))

theorem serial_cutOpen (s : State) (p : Fin 4) (o : OpenRecord) :
    (cutOpen s p o).record.serial = o.record.serial := by
  unfold cutOpen
  split
  · split <;> simp
  · rfl

theorem cutOpen_bound {s : State} {p : Fin 4} {b : Bound} (bound : (s.press p).bound = some b) :
    cutOpen s p = fun o => if o.record.serial = b.serial then leftRecord s p (cutRecord s p o) else o :=
  funext fun o => by rw [cutOpen, bound]

theorem cutOpen_unbound {s : State} {p : Fin 4} (bound : (s.press p).bound = none) : cutOpen s p = id :=
  funext fun o => by rw [cutOpen, bound]; rfl

/-- A press that neither cures nor strokes writes nothing. -/
theorem cutOpen_idle {s : State} {p : Fin 4} (curing : (s.press p).state ≠ .curing)
    (stroke : (s.press p).state = .ejecting → (s.press p).stroke = none) : cutOpen s p = id := by
  have kept (o : OpenRecord) : leftRecord s p (cutRecord s p o) = o := by
    rw [leftRecord, if_neg curing]
    by_cases ejecting : (s.press p).state = .ejecting
    · exact cutRecord_noStroke (stroke ejecting) o
    · exact cutRecord_other ejecting o
  cases bound : (s.press p).bound with
  | none => exact cutOpen_unbound bound
  | some b =>
    rw [cutOpen_bound bound]
    funext o
    rw [kept, ite_self]
    rfl

/-- Press `p` cut short, with each part of the state that it can change spelt out. -/
def cutState (s : State) (p : Fin 4) : State :=
  { s with
    presses := s.presses.set p (cutPress s p),
    image := { s.image with openTable := s.image.openTable.map (cutOpen s p) },
    retained :=
      { s.retained with
        generation := if cutWrites s p then nextGeneration s.retained.generation else s.retained.generation } }

theorem cutState_quiet {s : State} {p : Fin 4} (curing : (s.press p).state ≠ .curing) (writes : cutWrites s p = false)
    (open_ : cutOpen s p = id) : cutState s p = s := by
  have same : s.presses.set p (s.press p) = s.presses := set_get ..
  rw [cutState, cutPress, if_neg curing, writes, open_, same, List.map_id]
  rfl

/-- A cure cut short: its verdict, in the press's figures and in the record (R114). -/
theorem cutShort_curing {s : State} {p : Fin 4} (curing : (s.press p).state = .curing) :
    s.cutShort p = cutState s p := by
  have notEjecting : (s.press p).state ≠ .ejecting := by rw [curing]; decide
  rw [State.cutShort, if_pos curing, fixVerdict_eq, cutState, cutPress, if_pos curing]
  cases bound : (s.press p).bound with
  | none =>
    have writes : cutWrites s p = false := by simp [cutWrites, bound]
    rw [writeBound_unbound (by rw [State.press_modPress]; exact bound), cutOpen_unbound bound, List.map_id, writes]
    rfl
  | some b =>
    have writes : cutWrites s p = true := by simp [cutWrites, bound, curing]
    have left : cutOpen s p = fun o => if o.record.serial = b.serial then
        o.onCure fun u => { u with verdict := some (verdictNow s p) } else o := by
      rw [cutOpen_bound bound]
      funext o
      rw [cutRecord_other notEjecting, leftRecord, if_pos curing]
    rw [writeBound_bound (b := b) (by rw [State.press_modPress]; exact bound), left, writes]
    rfl

/-- A stroke cut short: its summary in the record (R93, R127). -/
theorem cutShort_stroke {s : State} {p : Fin 4} {k : Stroke} (ejecting : (s.press p).state = .ejecting)
    (stroke : (s.press p).stroke = some k) : s.cutShort p = cutState s p := by
  have notCuring : (s.press p).state ≠ .curing := by rw [ejecting]; decide
  have cut : s.cutShort p = s.writeDemould p k.count false :=
    (if_neg notCuring).trans (cutStroke_stroke ejecting stroke)
  rw [cut]
  cases bound : (s.press p).bound with
  | none =>
    rw [State.writeDemould, writeBound_unbound bound]
    exact (cutState_quiet notCuring (by simp [cutWrites, bound]) (cutOpen_unbound bound)).symm
  | some b =>
    have writes : cutWrites s p = true := by simp [cutWrites, bound, ejecting, stroke]
    have same : s.presses.set p (s.press p) = s.presses := set_get ..
    have left : cutOpen s p = fun o => if o.record.serial = b.serial then
        { o with record := { o.record with demould := some ⟨k.count, false⟩ } } else o := by
      rw [cutOpen_bound bound]
      funext o
      rw [cutRecord_stroke ejecting stroke, leftRecord, if_neg notCuring]
    rw [writeDemould_eq bound, cutState, cutPress, if_neg notCuring, same, left, writes]
    rfl

theorem cutShort_eq (s : State) (p : Fin 4) : s.cutShort p = cutState s p := by
  by_cases curing : (s.press p).state = .curing
  · exact cutShort_curing curing
  by_cases stroking : (s.press p).state = .ejecting ∧ (s.press p).stroke.isSome = true
  · obtain ⟨ejecting, stroke⟩ := stroking
    obtain ⟨k, stroke⟩ := Option.isSome_iff_exists.mp stroke
    exact cutShort_stroke ejecting stroke
  · have stroke (ejecting : (s.press p).state = .ejecting) : (s.press p).stroke = none := by
      simpa using fun h => stroking ⟨ejecting, h⟩
    have uncut : s.cutShort p = s := by
      rw [State.cutShort, if_neg curing]
      by_cases ejecting : (s.press p).state = .ejecting
      · exact cutStroke_noStroke (stroke ejecting)
      · exact cutStroke_other ejecting
    have writes : cutWrites s p = false := by
      unfold cutWrites
      by_cases ejecting : (s.press p).state = .ejecting
      · simp [ejecting, stroke ejecting]
      · simp [curing, ejecting]
    rw [uncut, cutState_quiet curing writes (cutOpen_idle curing stroke)]

/-! ## The presses cut short one after another -/

/-- What cutting a list of presses short makes of an open record. -/
def cutOpens (s : State) (ps : List (Fin 4)) (o : OpenRecord) : OpenRecord := ps.foldl (fun q p => cutOpen s p q) o

theorem cutOpen_congr {s u : State} {p : Fin 4} (press : u.press p = s.press p)
    (recipe : u.recipeOf p = s.recipeOf p) : cutOpen u p = cutOpen s p := by
  funext o
  rw [cutOpen, cutOpen, press]
  split
  · rw [cutRecord_congr press, leftRecord_congr press recipe]
  · rfl

theorem press_cutShort (s : State) (p : Fin 4) : (s.cutShort p).press p = cutPress s p := by
  rw [cutShort_eq]
  exact Tab.get_set_same ..

/-- The presses of a list cut short, each from what it stood at: none looks at what another has done. -/
theorem cutShorts_eq (ps : List (Fin 4)) (distinct : ps.Nodup) (s : State) :
    (∀ q, (ps.foldl State.cutShort s).press q = if q ∈ ps then cutPress s q else s.press q) ∧
      ps.foldl State.cutShort s =
        { s with
          presses := (ps.foldl State.cutShort s).presses,
          image := { s.image with openTable := s.image.openTable.map (cutOpens s ps) },
          retained :=
            { s.retained with
              generation := nextGeneration^[(ps.filter (cutWrites s)).length] s.retained.generation } } := by
  induction ps generalizing s with
  | nil =>
    have nothing : cutOpens s [] = id := rfl
    refine ⟨fun q => rfl, ?_⟩
    rw [nothing, List.map_id]
    rfl
  | cons p ps ih =>
    obtain ⟨fresh, distinct⟩ := List.nodup_cons.mp distinct
    obtain ⟨presses, rest⟩ := ih distinct (s.cutShort p)
    have only := PressOnly.cutShort (p := p) s
    have press (q : Fin 4) (hq : q ∈ ps) : (s.cutShort p).press q = s.press q :=
      only.others q fun e => fresh (e ▸ hq)
    have recipe := recipeOf_of_records only.records
    have opens : cutOpens (s.cutShort p) ps = cutOpens s ps := by
      funext o
      exact List.foldl_ext _ _ _ fun w q hq => by rw [cutOpen_congr (press q hq) (recipe q)]
    have writes : ps.filter (cutWrites (s.cutShort p)) = ps.filter (cutWrites s) :=
      List.filter_congr fun q hq => by rw [cutWrites, cutWrites, press q hq]
    refine ⟨fun q => ?_, ?_⟩
    · rw [List.foldl_cons, presses]
      by_cases hq : q ∈ ps
      · rw [if_pos hq, if_pos (List.mem_cons_of_mem _ hq), cutPress, cutPress,
          verdictNow_congr (press q hq) (recipe q), press q hq]
      · rw [if_neg hq]
        by_cases e : q = p
        · subst e
          rw [press_cutShort, if_pos (List.mem_cons_self ..)]
        · rw [only.others q e, if_neg (by simp [e, hq])]
    · have count : nextGeneration^[((p :: ps).filter (cutWrites s)).length] s.retained.generation =
          nextGeneration^[(ps.filter (cutWrites s)).length]
            (if cutWrites s p then nextGeneration s.retained.generation else s.retained.generation) := by
        rw [List.filter_cons]
        split <;> rfl
      have table : s.image.openTable.map (cutOpens s (p :: ps)) =
          (s.image.openTable.map (cutOpen s p)).map (cutOpens s ps) := by
        rw [List.map_map]; rfl
      rw [List.foldl_cons, rest, opens, writes, count, table, cutShort_eq]
      rfl

/-- A record that none of the presses writes. -/
theorem cutOpens_untouched {s : State} {ps : List (Fin 4)} {o : OpenRecord} (h : ∀ p ∈ ps, cutOpen s p o = o) :
    cutOpens s ps o = o := by
  induction ps with
  | nil => rfl
  | cons p ps ih =>
    have first := h p (List.mem_cons_self ..)
    rw [cutOpens, List.foldl_cons, first]
    exact ih fun q hq => h q (List.mem_cons_of_mem _ hq)

theorem cutOpen_foreign {s : State} {p : Fin 4} {o : OpenRecord}
    (h : ∀ b, (s.press p).bound = some b → b.serial ≠ o.record.serial) : cutOpen s p o = o := by
  unfold cutOpen
  split
  · next b bound => exact if_neg fun e => h b bound e.symm
  · rfl

/-- A record that one press alone can write. -/
theorem cutOpens_own {s : State} {ps : List (Fin 4)} (distinct : ps.Nodup) {p : Fin 4} (hp : p ∈ ps) {o : OpenRecord}
    (others : ∀ q ∈ ps, q ≠ p → ∀ b, (s.press q).bound = some b → b.serial ≠ o.record.serial) :
    cutOpens s ps o = cutOpen s p o := by
  obtain ⟨before, after, rfl⟩ := List.append_of_mem hp
  obtain ⟨-, distinctAfter, apart⟩ := List.nodup_append.mp distinct
  obtain ⟨fresh, -⟩ := List.nodup_cons.mp distinctAfter
  have first : cutOpens s before o = o := cutOpens_untouched fun q hq => cutOpen_foreign
    (others q (List.mem_append_left _ hq) fun e => apart q hq p (List.mem_cons_self ..) e)
  have last : cutOpens s after (cutOpen s p o) = cutOpen s p o := cutOpens_untouched fun q hq => cutOpen_foreign
    fun b bound => by
      rw [serial_cutOpen]
      exact others q (by simp [hq]) (fun e => fresh (e ▸ hq)) b bound
  have steps : cutOpens s (before ++ p :: after) o = cutOpens s after (cutOpen s p (cutOpens s before o)) :=
    List.foldl_append
  rw [steps, first, last]

/-- All four presses cut short. -/
theorem cutAllShort_eq (s : State) :
    s.cutAllShort =
      { s with
        presses := s.cutAllShort.presses,
        image := { s.image with openTable := s.image.openTable.map (cutOpens s (List.finRange 4)) },
        retained :=
          { s.retained with
            generation :=
              nextGeneration^[((List.finRange 4).filter (cutWrites s)).length] s.retained.generation } } :=
  (cutShorts_eq (List.finRange 4) (List.nodup_finRange 4) s).2

theorem press_cutAllShort (s : State) (p : Fin 4) : s.cutAllShort.press p = cutPress s p := by
  obtain ⟨press, -⟩ := cutShorts_eq (List.finRange 4) (List.nodup_finRange 4) s
  exact (press p).trans (if_pos (List.mem_finRange p))

/-! ## The power fall (R100, R151, R152) -/

/-- Every output off, with PFAIL high. -/
def dark (s : State) : State := { s with pfail := true }.outputsOff

theorem press_dark (s : State) (p : Fin 4) : (dark s).press p = { s.press p with valves := Valves.off } :=
  Tab.get_mapWith ..

theorem verdictNow_dark (s : State) (p : Fin 4) : verdictNow (dark s) p = verdictNow s p := by
  rw [verdictNow, press_dark]
  rfl

/-- The outputs have no part in what is written as cycles are cut short. -/
theorem cutAllShort_dark (s : State) : (dark s).cutAllShort = dark s.cutAllShort := by
  have once (t : State) (p : Fin 4) : (dark t).cutShort p = dark (t.cutShort p) := by
    have press : cutPress (dark t) p = { cutPress t p with valves := Valves.off } := by
      rw [cutPress, cutPress, verdictNow_dark, press_dark]
      split <;> rfl
    have presses : (dark t).presses.set p (cutPress (dark t) p) = (dark (t.cutShort p)).presses := by
      refine Tab.ext_get fun q => ?_
      change _ = (dark (t.cutShort p)).press q
      rw [Tab.get_set, press_dark, press]
      by_cases h : q = p
      · subst h; rw [if_pos rfl, press_cutShort]
      · rw [if_neg h, (PressOnly.cutShort (p := p) t).others q h]
        exact press_dark t q
    have opens : cutOpen (dark t) p = cutOpen t p := by
      funext o
      rw [cutOpen, cutOpen, leftRecord, leftRecord, cutRecord, cutRecord, verdictNow_dark, press_dark]
    have writes : cutWrites (dark t) p = cutWrites t p := by
      rw [cutWrites, cutWrites, press_dark]
    rw [cutShort_eq (dark t), cutState, presses, opens, writes, cutShort_eq t]
    rfl
  exact List.foldl_hom dark fun t p => once t p

/-- What power-fall handling does before the stores, once the parts have been cut short, which leaves `c`: the outputs
off, the Link Port stopped, the timer and the store-again flag gone. -/
def fallen (s c : State) : State :=
  { dark c with
    phase := .powerFall false false, link := s.link.powerFall,
    retained := { c.retained with periodic := none, storeAgain := false } }

/-- The stores of power-fall handling: one in flight runs on, a dirty image gets its final store, a clean one stops. -/
def fallenOn (u : State) : State :=
  if u.retained.store.isSome then u
  else if u.retained.generation ≠ u.retained.storedGeneration then
    { u with
      phase := .powerFall true false,
      retained := { u.retained with store := some ⟨u.image, u.retained.generation⟩ } }
  else { u with phase := .stopped }

theorem powerFallOn_eq {u : State} (h : u.retained.store.isSome = false) :
    u.powerFallOn false false = fallenOn u := by
  unfold State.powerFallOn fallenOn Retained.dirty
  rw [h, if_neg Bool.false_ne_true]
  by_cases dirty : u.retained.generation ≠ u.retained.storedGeneration
  · rw [if_pos dirty]
    exact if_pos (by simpa using dirty)
  · rw [if_neg dirty]
    exact if_neg (by simpa using dirty)

theorem beginPowerFall_eq {s c : State} (cut : (dark s).cutAllShort = dark c) :
    { s with pfail := true }.beginPowerFall = fallenOn (fallen s c) := by
  unfold State.beginPowerFall
  unfold dark at cut
  rw [cut]
  change (if (fallen s c).retained.store.isSome then fallen s c else (fallen s c).powerFallOn false false) = _
  cases store : (fallen s c).retained.store.isSome with
  | true => rw [fallenOn, store]; rfl
  | false => rw [powerFallOn_eq store]; rfl

theorem pfailRise_eq {s : State} (h : s.phase = .running ∨ s.phase = .held) :
    exec .pfailRise s = .next (fallenOn (fallen s s.cutAllShort)) := by
  refine congrArg Host.Outcome.next ?_
  rw [← beginPowerFall_eq (cutAllShort_dark s)]
  rcases h with h | h <;> rw [State.pfailRises, h]

/-- The phase and the store in flight apart, the stores of power-fall handling change nothing. -/
theorem fallenOn_frame (u : State) :
    fallenOn u =
      { u with phase := (fallenOn u).phase, retained := { u.retained with store := (fallenOn u).retained.store } } := by
  unfold fallenOn
  split
  · rfl
  · split <;> rfl

/-- Settles O20: the power fall by phase, and what is written as cycles are cut short. -/
theorem pfailMakesTheOutputsSafeAndSavesTheImage : Obligations.PfailMakesTheOutputsSafeAndSavesTheImage := by
  unfold Obligations.PfailMakesTheOutputsSafeAndSavesTheImage
  intro s
  refine ⟨fun phase => ⟨_, pfailRise_eq phase, ?_⟩,
    fun recalling => ⟨{ s with pfail := true }.abandonRecall, ?_⟩, fun final fallen falling => ?_, fun distinct => ?_⟩
  · have press := press_cutAllShort s
    have cut := cutAllShort_eq s
    generalize s.cutAllShort = c at *
    have frame := fallenOn_frame (fallen s c)
    have store : (fallen s c).retained.store = s.retained.store := by rw [fallen, cut]
    have stored : (fallen s c).retained.storedGeneration = s.retained.storedGeneration := by rw [fallen, cut]
    have inFlight (h : s.retained.store ≠ none) : fallenOn (fallen s c) = fallen s c := by
      rw [← store] at h
      exact if_pos (Option.isSome_iff_ne_none.mpr h)
    have idle (h : s.retained.store = none) : fallenOn (fallen s c) =
        if (fallen s c).retained.generation ≠ (fallen s c).retained.storedGeneration then
          { fallen s c with
            phase := .powerFall true false,
            retained :=
              { (fallen s c).retained with store := some ⟨(fallen s c).image, (fallen s c).retained.generation⟩ } }
        else { fallen s c with phase := .stopped } := by
      rw [← store] at h
      exact if_neg (by rw [h]; decide)
    generalize fallenOn (fallen s c) = t at *
    have zone (z : Fin 24) : t.zone z = { s.zone z with out := false } := by
      have zones : t.zones = s.zones.mapWith fun _ z => { z with out := false } := by rw [frame, fallen, cut]; rfl
      rw [State.zone, zones]
      exact Tab.get_mapWith ..
    have pressOff (p : Fin 4) : t.press p = { cutPress s p with valves := Valves.off } := by
      have presses : t.presses = (dark c).presses := by rw [frame]; rfl
      rw [State.press, presses, ← press]
      exact press_dark c p
    have retained : t.retained = { (fallen s c).retained with store := t.retained.store } := by rw [frame]
    have link : t.link = s.link.powerFall := by rw [frame]; rfl
    refine ⟨by rw [frame]; rfl, zone, fun p => ?_, by rw [frame]; rfl, by rw [retained]; rfl, ?_, ?_,
      by rw [retained]; rfl, by rw [retained]; rfl, by rw [link]; rfl, by rw [link]; rfl, by rw [link]; rfl,
      by rw [link]; rfl, by rw [link]; rfl, ?_, by rw [frame, fallen, cut]; rfl, by rw [frame, fallen, cut]; rfl,
      by rw [frame, fallen, cut]; rfl, by rw [frame, fallen, cut]; rfl, by rw [frame, fallen, cut]; rfl, fun h => ?_,
      fun h => ⟨fun moved => ?_, fun same => ?_⟩⟩
    · rw [pressOff, cutPress]
      split
      · next curing => exact ⟨rfl, rfl, rfl, rfl, rfl, fun _ => rfl, fun h => absurd curing h⟩
      · next other => exact ⟨rfl, rfl, rfl, rfl, rfl, fun h => absurd h other, fun _ => rfl⟩
    · rw [retained, fallen, cut]
    · rw [retained, fallen, cut]
    · rw [link, Link.powerFall, Option.map_map]
      rfl
    · rw [inFlight h]
      exact ⟨rfl, store⟩
    · have generation : t.retained.generation = (fallen s c).retained.generation := by rw [retained]
      rw [idle h, if_pos (by rw [← generation, stored]; exact moved)]
      exact ⟨rfl, rfl⟩
    · have generation : t.retained.generation = (fallen s c).retained.generation := by rw [retained]
      rw [idle h, if_neg (by rw [← generation, stored]; exact not_not.mpr same)]
      exact ⟨rfl, store.trans h⟩
  · refine ⟨congrArg Host.Outcome.next ?_, rfl, rfl, rfl, rfl, rfl, rfl⟩
    rw [State.pfailRises, recalling]
  · refine congrArg Host.Outcome.next ?_
    rw [State.pfailRises, falling]
  · have cut := cutAllShort_eq s
    have press := press_cutAllShort s
    generalize s.cutAllShort = c at cut press ⊢
    intro verdict writing t
    have verdict_eq {p : Fin 4} {r : Recipe} (recipe : s.recipeOf p = some r) : verdictNow s p = verdict p r := by
      rw [verdictNow, overcureOf_eq recipe]; rfl
    have table : t.image.openTable = s.image.openTable.map (cutOpens s (List.finRange 4)) :=
      congrArg (fun u : State => u.image.openTable) cut
    rw [iterate_nextGeneration] at cut
    have own {p : Fin 4} {b : Bound} {o : OpenRecord} (bound : (s.press p).bound = some b)
        (serial : b.serial = o.record.serial) :
        cutOpens s (List.finRange 4) o = leftRecord s p (cutRecord s p o) := by
      rw [cutOpens_own (List.nodup_finRange 4) (List.mem_finRange p) fun q _ hq c hc e =>
        hq (distinct q p c b hc bound (e.trans serial.symm)), cutOpen_bound bound]
      exact if_pos serial.symm
    refine ⟨?_, fun p => ⟨fun other => ?_, fun r curing recipe => ?_⟩, cutOpens s (List.finRange 4), ?_,
      fun o => ⟨fun p b r bound serial curing recipe => ?_, fun p b k bound serial ejecting stroke => ?_,
        fun none => ?_⟩⟩
    · rw [table]
      exact cut
    · exact (press p).trans (if_neg other)
    · rw [press, cutPress, if_pos curing, verdict_eq recipe]
    · exact table
    · rw [own bound serial, cutRecord_other (by rw [curing]; decide), leftRecord, if_pos curing, verdict_eq recipe]
      rfl
    · rw [own bound serial, cutRecord_stroke ejecting stroke, leftRecord, if_neg (by rw [ejecting]; decide)]
    · refine cutOpens_untouched fun p _ => ?_
      cases bound : (s.press p).bound with
      | none => rw [cutOpen_unbound bound]; rfl
      | some b =>
        by_cases serial : b.serial = o.record.serial
        · obtain ⟨curing, stroke⟩ := none p b bound serial
          rw [cutOpen_idle curing stroke]; rfl
        · rw [cutOpen_bound bound]
          exact if_neg fun e => serial e.symm

end Sys2Proof.Machine.PressCycle

/-!
PROOF. Every open record closed, and the recall (O21).
-/

namespace Sys2Proof.Machine.PressCycle

open ChargeWeighing

/-! ## The open records in ascending order of serial (R138) -/

theorem insertSerial_eq (n : Nat) (l : List Nat) : insertSerial n l = l.orderedInsert (· ≤ ·) n := by
  induction l with
  | nil => rfl
  | cons m rest ih => rw [insertSerial, List.orderedInsert_cons, ih]

/-- The open records in ascending order of serial. -/
def inOrder (m : Image) : List OpenRecord :=
  m.openTable.insertionSort fun o q => o.record.serial ≤ q.record.serial

theorem inOrder_perm (m : Image) : (inOrder m).Perm m.openTable := List.perm_insertionSort ..

theorem serials_inOrder (m : Image) : (inOrder m).map (fun o => o.record.serial) = m.openSerials := by
  have sorted : m.openSerials = (m.openTable.map fun o => o.record.serial).insertionSort (· ≤ ·) := by
    rw [Image.openSerials, List.insertionSort, List.foldr_map]
    congr 1
    funext o acc
    exact insertSerial_eq ..
  rw [sorted]
  exact List.map_insertionSort _ _ _ _ fun _ _ _ _ => Iff.rfl

theorem inOrder_ascends {m : Image} (distinct : (m.openTable.map fun o => o.record.serial).Nodup) :
    (inOrder m).Pairwise fun o q => o.record.serial < q.record.serial := by
  have differ : ((inOrder m).map fun o => o.record.serial).Nodup :=
    ((inOrder_perm m).map fun o => o.record.serial).nodup_iff.mpr distinct
  have rise : ((inOrder m).map fun o => o.record.serial).Pairwise (· ≤ ·) := by
    rw [inOrder, List.map_insertionSort (s := (· ≤ ·)) _ _ _ fun _ _ _ _ => Iff.rfl]
    exact List.pairwise_insertionSort ..
  exact List.pairwise_map.mp ((rise.and differ).imp fun h => Nat.lt_of_le_of_ne h.1 h.2)

/-! ## The ring and the counters after several closings (R128, R131, R178) -/

/-- Several records appended, with room for all of them. -/
theorem record_appends (l : List Record) {r : Ring} (room : r.count + l.length ≤ 1024) :
    (l.foldl Ring.append r).oldest = r.oldest ∧ (l.foldl Ring.append r).count = r.count + l.length ∧
      (∀ k, k < r.count → (l.foldl Ring.append r).record k = r.record k) ∧
      ∀ k q, l[k]? = some q → (l.foldl Ring.append r).record (r.count + k) = some q := by
  induction l generalizing r with
  | nil => exact ⟨rfl, rfl, fun _ _ => rfl, fun k q h => by simp at h⟩
  | cons x l ih =>
    simp only [List.length_cons] at room
    have grown : (r.append x).count = r.count + 1 := rfl
    obtain ⟨oldest, count, kept, added⟩ := ih (r := r.append x) (by omega)
    refine ⟨oldest, ?_, fun k hk => ?_, fun k q hq => ?_⟩
    · rw [List.foldl_cons, count, grown, List.length_cons]; omega
    · rw [List.foldl_cons, kept k (by omega), Ring.record_append (by omega), if_pos hk]
    · cases k with
      | zero =>
        obtain rfl : x = q := by simpa using hq
        rw [List.foldl_cons, Nat.add_zero, kept _ (by omega)]
        exact record_append_last ..
      | succ k =>
        have place : r.count + (k + 1) = (r.append x).count + k := by omega
        rw [List.foldl_cons, place]
        exact added k q (by simpa using hq)

theorem iterate_bump (c : Counter) (n : Nat) :
    Counter.bump^[n] c =
      { n := if c.n < 65535 then min 65535 (c.n + n) else c.n,
        saturated := c.saturated || decide (0 < n ∧ 65535 < c.n + n) } := by
  induction n with
  | zero =>
    obtain ⟨k, full⟩ := c
    simp only [Function.iterate_zero, id_eq, Nat.add_zero, Nat.lt_irrefl, false_and, decide_false, Bool.or_false,
      Counter.mk.injEq, and_true]
    split <;> omega
  | succ n ih =>
    obtain ⟨k, full⟩ := c
    rw [Function.iterate_succ_apply', ih, Counter.bump]
    dsimp only
    by_cases room : k + n < 65535
    · have below : k < 65535 := by omega
      have before : ¬ (0 < n ∧ 65535 < k + n) := by omega
      have after : ¬ (0 < n + 1 ∧ 65535 < k + (n + 1)) := by omega
      have least : min 65535 (k + n) = k + n := by omega
      rw [if_pos below, if_pos below, least, if_pos room, Counter.mk.injEq]
      exact ⟨by omega, by rw [decide_eq_false before, decide_eq_false after]⟩
    · have after : 0 < n + 1 ∧ 65535 < k + (n + 1) := by omega
      have full : ¬ (if k < 65535 then min 65535 (k + n) else k) < 65535 := by split <;> omega
      rw [if_neg full, Counter.mk.injEq]
      exact ⟨by split <;> omega, by rw [decide_eq_true after, Bool.or_true]⟩

/-- The scrap counter of one press after several closings, each counted on the press of its record. -/
theorem get_scrap (l : List Record) {d : Disposition} (scrap : d = .scrapReset ∨ d = .scrapPower)
    (counters : Tab Counters 4) (p : Fin 4) :
    (l.foldl (fun (c : Tab Counters 4) q => c.modify q.press fun x => x.bumpFor d) counters).get p =
      { counters.get p with
        scrap := Counter.bump^[(l.filter fun q => decide (q.press = p)).length] (counters.get p).scrap } := by
  have bump (c : Counters) : c.bumpFor d = { c with scrap := c.scrap.bump } := by
    rcases scrap with rfl | rfl <;> rfl
  induction l generalizing counters with
  | nil => rfl
  | cons x l ih =>
    rw [List.foldl_cons, ih, Tab.get_modify, List.filter_cons]
    by_cases h : p = x.press
    · subst h
      rw [if_pos rfl, if_pos (decide_eq_true rfl), bump]
      rfl
    · rw [if_neg h, if_neg (by simpa using Ne.symm h)]

/-! ## Closing them all (R138, R140, R156) -/

/-- Records closed one after another, by their serials. -/
def closeSerials (s : State) (d : Disposition) (serials : List Nat) : State :=
  serials.foldl (fun t serial => t.closeRecord serial d none) s

theorem closeAll_eq (s : State) (d : Disposition) : s.closeAll d = closeSerials s d s.image.openSerials := rfl

/-- No closed serial is left in the table. -/
theorem openTable_closeSerials (s : State) (d : Disposition) (serials : List Nat) :
    (closeSerials s d serials).image.openTable =
      s.image.openTable.filter fun o => !decide (o.record.serial ∈ serials) := by
  induction serials generalizing s with
  | nil => simp [closeSerials]
  | cons n serials ih =>
    rw [closeSerials, List.foldl_cons, ← closeSerials, ih, openTable_closeRecord, List.filter_filter]
    refine List.filter_congr fun o _ => ?_
    by_cases h : o.record.serial = n <;> simp [h]

theorem openTable_closeAll (s : State) (d : Disposition) : (s.closeAll d).image.openTable = [] := by
  rw [closeAll_eq, openTable_closeSerials]
  refine List.filter_eq_nil_iff.mpr fun o ho => ?_
  have listed : o.record.serial ∈ s.image.openSerials := by
    rw [← serials_inOrder]
    exact List.mem_map.mpr ⟨o, (inOrder_perm s.image).mem_iff.mpr ho, rfl⟩
  simp [listed]

/-- The record of an open part, closed with no cause. -/
def closedBy (s : State) (d : Disposition) (o : OpenRecord) : Record := o.record.closed d none s.clock.stamp

/-- Closing a list of records that are open, each under a serial of its own. -/
theorem closeSerials_open {l : List OpenRecord} (distinct : (l.map fun o => o.record.serial).Nodup) {s : State}
    (isOpen : ∀ o ∈ l, s.image.openRecord o.record.serial = some o) (d : Disposition) :
    closeSerials s d (l.map fun o => o.record.serial) =
      { s with
        image :=
          { s.image with
            openTable := (closeSerials s d (l.map fun o => o.record.serial)).image.openTable,
            ring := (l.map (closedBy s d)).foldl Ring.append s.image.ring,
            counters :=
              (l.map (closedBy s d)).foldl (fun (c : Tab Counters 4) q => c.modify q.press fun x => x.bumpFor d)
                s.image.counters },
        retained := { s.retained with generation := nextGeneration^[l.length] s.retained.generation } } := by
  induction l generalizing s with
  | nil => rfl
  | cons o l ih =>
    rw [List.map_cons, List.nodup_cons] at distinct
    obtain ⟨fresh, distinct⟩ := distinct
    have first := closeRecord_found (isOpen o (List.mem_cons_self ..)) d none
    have rest := ih distinct (s := s.closeRecord o.record.serial d none) fun q hq => by
      have other : o.record.serial ≠ q.record.serial := fun e => fresh (e ▸ List.mem_map.mpr ⟨q, hq, rfl⟩)
      rw [openRecord_closeRecord_other _ other]
      exact isOpen q (List.mem_cons_of_mem _ hq)
    have clock : closedBy (s.closeRecord o.record.serial d none) d = closedBy s d := by
      funext q
      rw [closedBy, closedBy, first]
    rw [clock] at rest
    rw [List.map_cons, closeSerials, List.foldl_cons, ← closeSerials, rest, first]
    rfl

/-- A table under distinct serials finds each of its records. -/
theorem openRecord_of_mem {m : Image} (distinct : (m.openTable.map fun o => o.record.serial).Nodup) {o : OpenRecord}
    (ho : o ∈ m.openTable) : m.openRecord o.record.serial = some o := by
  have inj := List.inj_on_of_nodup_map distinct
  cases found : m.openRecord o.record.serial with
  | none => exact absurd (decide_eq_true rfl) (List.find?_eq_none.mp found o ho)
  | some q => rw [inj (List.mem_of_find?_eq_some found) ho (serial_of_openRecord found)]

/-- Every open record closed (R138): the ring and the counters take them in ascending order of serial. -/
theorem closeAll_inOrder {s : State} (distinct : (s.image.openTable.map fun o => o.record.serial).Nodup)
    (d : Disposition) :
    s.closeAll d =
      { s with
        image :=
          { s.image with
            openTable := [],
            ring := ((inOrder s.image).map (closedBy s d)).foldl Ring.append s.image.ring,
            counters :=
              ((inOrder s.image).map (closedBy s d)).foldl
                (fun (c : Tab Counters 4) q => c.modify q.press fun x => x.bumpFor d) s.image.counters },
        retained :=
          { s.retained with generation := nextGeneration^[(inOrder s.image).length] s.retained.generation } } := by
  have differ : ((inOrder s.image).map fun o => o.record.serial).Nodup :=
    ((inOrder_perm s.image).map fun o => o.record.serial).nodup_iff.mpr distinct
  have closed := closeSerials_open differ
    (fun o ho => openRecord_of_mem distinct ((inOrder_perm s.image).mem_iff.mp ho)) d
  rw [serials_inOrder, ← closeAll_eq, openTable_closeAll] at closed
  exact closed

/-! ## The recall result is no part of a closing (R154, R155) -/

/-- The generation of the copy and the recall result as a recall finds them. -/
def withResult (stored : Nat) (result : RecallResult) (s : State) : State :=
  { s with retained := { s.retained with storedGeneration := stored, recallResult := result } }

theorem closeRecord_withResult (stored : Nat) (result : RecallResult) (s : State) (serial : Nat) (d : Disposition)
    (c : Option PressFault) :
    (withResult stored result s).closeRecord serial d c = withResult stored result (s.closeRecord serial d c) := by
  cases h : s.image.openRecord serial with
  | none => rw [closeRecord_absent h, closeRecord_absent (s := withResult stored result s) h]
  | some o => rw [closeRecord_found h, closeRecord_found (s := withResult stored result s) h]; rfl

theorem closeAll_withResult (stored : Nat) (result : RecallResult) (s : State) (d : Disposition) :
    (withResult stored result s).closeAll d = withResult stored result (s.closeAll d) :=
  List.foldl_hom (l := s.image.openSerials) (withResult stored result) fun t serial =>
    closeRecord_withResult stored result t serial d none

theorem closeAll_empty {s : State} (none : s.image.openTable = []) (d : Disposition) : s.closeAll d = s := by
  rw [State.closeAll, Image.openSerials, none]
  rfl

theorem oldest_closeRecord (s : State) (serial : Nat) (d : Disposition) (c : Option PressFault) :
    (s.closeRecord serial d c).image.ring.oldest = s.image.ring.oldest := by
  cases h : s.image.openRecord serial with
  | none => rw [closeRecord_absent h]
  | some o => rw [closeRecord_found h]; rfl

theorem oldest_closeAll (s : State) (d : Disposition) : (s.closeAll d).image.ring.oldest = s.image.ring.oldest := by
  rw [closeAll_eq]
  generalize s.image.openSerials = serials
  induction serials generalizing s with
  | nil => rfl
  | cons n serials ih => rw [closeSerials, List.foldl_cons, ← closeSerials, ih, oldest_closeRecord]

/-! ## The presses as a reset completes (R99) -/

/-- A press with its OPEN_LIMIT and its EJECT_HOME high. -/
def standsOpen (i : Lines) (p : Fin 4) : Prop := (i.presses.get p).openLimit ∧ (i.presses.get p).ejectHome

theorem derivePress_open {s : State} {p : Fin 4} (h : standsOpen s.inputs p) :
    s.derivePress p = s.modPress p fun _ => Press.reset := by
  rw [State.derivePress, if_pos (by simpa [standsOpen] using h)]

theorem derivePress_fault {s : State} {p : Fin 4} (h : ¬ standsOpen s.inputs p) :
    s.derivePress p =
      (s.modPress p fun _ => { Press.reset with state := .fault, cause := some .reset }).raise (.press p)
        .pressFault := by
  rw [State.derivePress, if_neg (by simpa [standsOpen] using h)]

theorem inputs_derivePress (s : State) (p : Fin 4) : (s.derivePress p).inputs = s.inputs := by
  by_cases h : standsOpen s.inputs p
  · rw [derivePress_open h]; rfl
  · rw [derivePress_fault h]; rfl

theorem pending_derivePress {s : State} {p : Fin 4} {i : Fin 6} {k : EventKind} (h : k ∈ s.link.pending.get i) :
    k ∈ (s.derivePress p).link.pending.get i := by
  by_cases stands : standsOpen s.inputs p
  · rw [derivePress_open stands]; exact h
  · rw [derivePress_fault stands, mem_raise]; exact .inl h

/-- A press as a reset leaves it: IDLE when it stands open, otherwise in FAULT with PRESS_FAULT pending. -/
def StartsFrom (i : Lines) (p : Fin 4) (t : State) : Prop :=
  (standsOpen i p → t.press p = Press.reset) ∧
    (¬ standsOpen i p →
      t.press p = { Press.reset with state := .fault, cause := some .reset } ∧
        EventKind.pressFault ∈ t.link.pending.get (Source.press p).index)

theorem StartsFrom.mono {i : Lines} {p : Fin 4} {s t : State} (h : StartsFrom i p s) (press : t.press p = s.press p)
    (pending : ∀ i k, k ∈ s.link.pending.get i → k ∈ t.link.pending.get i) : StartsFrom i p t :=
  ⟨fun stands => press.trans (h.1 stands), fun fails => ⟨press.trans (h.2 fails).1, pending _ _ (h.2 fails).2⟩⟩

theorem startsFrom_derivePress (s : State) (p : Fin 4) : StartsFrom s.inputs p (s.derivePress p) := by
  refine ⟨fun stands => ?_, fun fails => ?_⟩
  · rw [derivePress_open stands, State.press_modPress]
  · rw [derivePress_fault fails, mem_raise]
    exact ⟨State.press_modPress s p _, .inr ⟨rfl, rfl⟩⟩

theorem startsFrom_foldl {l : List (Fin 4)} {s : State} {p : Fin 4} (h : p ∈ l ∨ StartsFrom s.inputs p s) :
    StartsFrom s.inputs p (l.foldl State.derivePress s) := by
  induction l generalizing s with
  | nil => exact h.resolve_left List.not_mem_nil
  | cons q l ih =>
    rw [List.foldl_cons, ← inputs_derivePress s q]
    refine ih ?_
    rw [inputs_derivePress]
    by_cases same : p = q
    · subst same; exact .inr (startsFrom_derivePress s p)
    · exact h.imp (fun hm => (List.mem_cons.mp hm).resolve_left same) fun kept =>
        kept.mono ((PressOnly.derivePress (p := q) s).others p same) fun _ _ => pending_derivePress

/-! ## A reset completes (R99, R133, R150, R188) -/

/-- What a completed reset leaves alone, and its timer. -/
theorem completeReset_eq (s : State) :
    s.completeReset =
      { s with
        inputs := s.lines, presses := s.completeReset.presses, historyRaised := s.completeReset.historyRaised,
        retained := { s.retained with periodic := startTimer s.image.settings.storeInterval },
        link := s.completeReset.link } := by
  rw [State.completeReset, State.historyTest_eq, derive_foldl_eq]
  rfl

theorem startsFrom_completeReset (s : State) (p : Fin 4) : StartsFrom s.lines p s.completeReset := by
  have derived := startsFrom_foldl (l := List.finRange 4) (s := { s with inputs := s.lines, historyRaised := false })
    (.inl (List.mem_finRange p))
  unfold State.completeReset
  generalize (List.finRange 4).foldl State.derivePress { s with inputs := s.lines, historyRaised := false } = t
    at derived ⊢
  exact derived.mono (congrArg (Tab.get · p) (State.historyTest_presses t)) fun i k h =>
    (mem_historyTest t i k).mpr (.inl h)

theorem historyRaised_completeReset (s : State) :
    s.completeReset.historyRaised = true ↔ s.image.settings.historyWarning ≤ s.image.recordCount := by
  rw [State.completeReset, derive_foldl_eq]
  exact historyTest_raised _

theorem rate_completeReset (s : State) : s.completeReset.link.rate = s.image.settings.linkRate := by
  rw [State.completeReset, derive_foldl_eq]
  rfl

/-! ## RECALL_COMPLETE (R154 to R156) -/

/-- The state of a recall before its blocks start: the image recalled and its open records closed. -/
def recallClosed (s : State) : State := s.recalled.closeAll .scrapPower

theorem recallClosed_good {s : State} {m : Image} {g : Nat} (good : s.retained.copy = .good m g) :
    recallClosed s =
      withResult g .recalled
        ({ s with image := m, retained := { s.retained with generation := g } }.closeAll .scrapPower) := by
  rw [recallClosed, State.recalled, good, ← closeAll_withResult]
  rfl

theorem recallClosed_bad {s : State} (bad : s.retained.copy = .bad) :
    recallClosed s =
      withResult 0 .defaulted
        { s with image := Image.default, retained := { s.retained with generation := 1 } } := by
  rw [recallClosed, State.recalled, bad]
  exact closeAll_empty rfl _

/-- What a recall leaves alone until its blocks start. -/
theorem recallClosed_eq (s : State) :
    recallClosed s =
      { s with
        image := (recallClosed s).image,
        retained :=
          { s.retained with
            generation := (recallClosed s).retained.generation,
            storedGeneration := (recallClosed s).retained.storedGeneration,
            recallResult := (recallClosed s).retained.recallResult } } := by
  cases copy : s.retained.copy with
  | bad => rw [recallClosed_bad copy]; rfl
  | good m g => rw [recallClosed_good copy, (RecordOnly.closeAll _ _).eq]; rfl

theorem raiseStarted_defaulted {s : State} (h : s.retained.recallResult = .defaulted) :
    s.raiseStarted = (s.raise .cell .memoryDefaulted).raise .cell .started := by
  rw [State.raiseStarted, h]

theorem raiseStarted_recalled {s : State} (h : s.retained.recallResult = .recalled) :
    s.raiseStarted = s.raise .cell .started := by
  rw [State.raiseStarted, h]

/-- Raising the start-up events changes the Link Port alone, keeps its rate, and makes STARTED pending. -/
theorem raiseStarted_facts (s : State) :
    s.raiseStarted = { s with link := s.raiseStarted.link } ∧ s.raiseStarted.link.rate = s.link.rate ∧
      (∀ i k, k ∈ s.link.pending.get i → k ∈ s.raiseStarted.link.pending.get i) ∧
      EventKind.started ∈ s.raiseStarted.link.pending.get 5 := by
  cases h : s.retained.recallResult with
  | defaulted =>
    rw [raiseStarted_defaulted h]
    refine ⟨rfl, ?_, fun i k hk => ?_, ?_⟩
    · rw [(State.raise_link_frame ..).1, (State.raise_link_frame ..).1]
    · rw [mem_raise, mem_raise]; exact .inl (.inl hk)
    · rw [mem_raise]; exact .inr ⟨rfl, rfl⟩
  | recalled =>
    rw [raiseStarted_recalled h]
    refine ⟨rfl, (State.raise_link_frame ..).1, fun i k hk => ?_, ?_⟩
    · rw [mem_raise]; exact .inl hk
    · rw [mem_raise]; exact .inr ⟨rfl, rfl⟩

theorem memoryDefaulted_raiseStarted {s : State} (h : s.retained.recallResult = .defaulted) :
    EventKind.memoryDefaulted ∈ s.raiseStarted.link.pending.get 5 := by
  rw [raiseStarted_defaulted h, mem_raise, mem_raise]
  exact .inl (.inr ⟨rfl, rfl⟩)

/-- The blocks started, before the start-up events. -/
def startBlocks (s : State) : State := { s.restartStation.completeReset with phase := .running }

theorem exec_recallComplete {s : State} (h : s.phase = .recalling) :
    exec .recallComplete s = .next (startBlocks (recallClosed s)).raiseStarted.pump := by
  have complete : exec .recallComplete s = .next (if s.phase = .recalling then s.completeRecall.pump else s) := rfl
  rw [complete, if_pos h]
  rfl

theorem rate_pump (s : State) : s.pump.link.rate = s.link.rate := by
  unfold State.pump
  split
  · exact (Link.startFrame_frame s.link).1
  · rfl

theorem raiseStarted_pump_eq (s : State) : s.raiseStarted.pump = { s with link := s.raiseStarted.pump.link } :=
  (State.pump_eq _).trans
    (congrArg (fun t : State => { t with link := s.raiseStarted.pump.link }) (raiseStarted_facts s).1)

/-- What starting the blocks leaves alone, and the timer and the station. -/
theorem startBlocks_eq (s : State) :
    startBlocks s =
      { s with
        phase := .running, inputs := s.lines, station := Station.reset s.image.settings.calibrationZero,
        presses := (startBlocks s).presses, historyRaised := (startBlocks s).historyRaised,
        retained := { s.retained with periodic := startTimer s.image.settings.storeInterval },
        link := (startBlocks s).link } :=
  congrArg (fun t : State => { t with phase := .running }) (completeReset_eq s.restartStation)

theorem startsFrom_startBlocks (s : State) (p : Fin 4) : StartsFrom s.lines p (startBlocks s) := by
  have derived := startsFrom_completeReset s.restartStation p
  unfold startBlocks
  generalize s.restartStation.completeReset = t at derived ⊢
  exact derived.mono rfl fun _ _ => id

theorem historyRaised_startBlocks (s : State) :
    (startBlocks s).historyRaised = true ↔ s.image.settings.historyWarning ≤ s.image.recordCount := by
  have raised := historyRaised_completeReset s.restartStation
  unfold startBlocks
  generalize s.restartStation.completeReset = t at raised ⊢
  exact raised

theorem rate_startBlocks (s : State) : (startBlocks s).link.rate = s.image.settings.linkRate := by
  rw [startBlocks, rate_completeReset]
  rfl

/-- The blocks started and the start-up events raised. -/
theorem recallCompleted_facts (s : State) :
    let t := (startBlocks s).raiseStarted.pump
    t =
        { s with
          phase := .running, inputs := s.lines, station := Station.reset s.image.settings.calibrationZero,
          presses := t.presses, historyRaised := t.historyRaised,
          retained := { s.retained with periodic := startTimer s.image.settings.storeInterval }, link := t.link } ∧
      (s.retained.recallResult = .defaulted → EventKind.memoryDefaulted ∈ t.link.pending.get 5) ∧
      EventKind.started ∈ t.link.pending.get 5 ∧ (∀ p, StartsFrom s.lines p t) ∧
      (t.historyRaised = true ↔ s.image.settings.historyWarning ≤ s.image.recordCount) ∧
      t.link.rate = s.image.settings.linkRate := by
  have blocks := startBlocks_eq s
  have presses := startsFrom_startBlocks s
  have raised := historyRaised_startBlocks s
  have linkRate := rate_startBlocks s
  generalize startBlocks s = u at blocks presses raised linkRate ⊢
  have events := raiseStarted_pump_eq u
  have result : u.retained.recallResult = s.retained.recallResult := by rw [blocks]
  have defaulted := memoryDefaulted_raiseStarted (s := u)
  obtain ⟨-, rate, kept, started⟩ := raiseStarted_facts u
  rw [← pump_pending_sets] at started defaulted
  rw [← pump_pending_sets u.raiseStarted] at kept
  rw [← rate_pump] at rate
  rw [result] at defaulted
  generalize u.raiseStarted.pump = t at events defaulted rate kept started ⊢
  refine ⟨?_, defaulted, started, fun p => (presses p).mono ?_ kept, ?_, rate.trans linkRate⟩
  · have presses : t.presses = u.presses := by rw [events]
    have history : t.historyRaised = u.historyRaised := by rw [events]
    rw [presses, history, events, blocks]
  · rw [events]; rfl
  · rw [events]; exact raised

/-- Every open record closed, with room for all of them in the ring (R128, R138). -/
theorem closeAll_closes {s : State} {d : Disposition} (scrap : d = .scrapReset ∨ d = .scrapPower)
    (distinct : (s.image.openTable.map fun o => o.record.serial).Nodup)
    (room : s.image.ring.count + s.image.openTable.length ≤ 1024) :
    let t := s.closeAll d
    let sorted := inOrder s.image
    t =
        { s with
          image := { s.image with openTable := [], ring := t.image.ring, counters := t.image.counters },
          retained :=
            { s.retained with
              generation :=
                if sorted.length = 0 then s.retained.generation
                else (s.retained.generation + sorted.length) % 4294967296 } } ∧
      t.image.ring.oldest = s.image.ring.oldest ∧
      t.image.ring.count = s.image.ring.count + sorted.length ∧
      (∀ k, k < s.image.ring.count → t.image.ring.record k = s.image.ring.record k) ∧
      (∀ k o, sorted[k]? = some o → t.image.ring.record (s.image.ring.count + k) = some (closedBy s d o)) ∧
      ∀ p : Fin 4,
        let c := s.image.counters.get p
        let n := (sorted.filter fun o => decide (o.record.press = p)).length
        t.image.counters.get p =
          { c with
            scrap :=
              { n := if c.scrap.n < 65535 then min 65535 (c.scrap.n + n) else c.scrap.n,
                saturated := c.scrap.saturated || decide (0 < n ∧ 65535 < c.scrap.n + n) } } := by
  intro t sorted
  have closed : t = _ := closeAll_inOrder distinct d
  have length : (sorted.map (closedBy s d)).length = s.image.openTable.length := by
    rw [List.length_map, (inOrder_perm s.image).length_eq]
  obtain ⟨oldest, count, kept, added⟩ :=
    record_appends (sorted.map (closedBy s d)) (r := s.image.ring) (by omega)
  rw [closed]
  refine ⟨?_, oldest, ?_, kept, fun k o ho => added k _ ?_, fun p => ?_⟩
  · rw [iterate_nextGeneration]
  · rw [← List.length_map (closedBy s d)]; exact count
  · rw [List.getElem?_map, ho]; rfl
  · have counted := get_scrap (sorted.map (closedBy s d)) scrap s.image.counters p
    rw [iterate_bump, List.filter_map, List.length_map] at counted
    exact counted

/-- Settles O21: the closing in order, then the image recalled, closed so, and the blocks started. -/
theorem theRecallRestoresTheImageAndStartsTheBlocks : Obligations.TheRecallRestoresTheImageAndStartsTheBlocks := by
  unfold Obligations.TheRecallRestoresTheImageAndStartsTheBlocks
  refine ⟨fun s d scrap distinct room =>
    ⟨inOrder s.image, inOrder_perm s.image, inOrder_ascends distinct, closeAll_closes scrap distinct room⟩,
    fun s recalling => ⟨_, exec_recallComplete recalling, ?_⟩⟩
  have good (m : Image) (g : Nat) := recallClosed_good (s := s) (m := m) (g := g)
  have bad := recallClosed_bad (s := s)
  have closed := recallClosed_eq s
  generalize recallClosed s = c at good bad closed ⊢
  obtain ⟨blocks, defaulted, started, presses, raised, rate⟩ := recallCompleted_facts c
  have lines : c.lines = s.lines := by rw [closed]
  rw [lines] at presses
  generalize (startBlocks c).raiseStarted.pump = t at *
  have image : t.image = c.image := by rw [blocks]
  have retained : t.retained = { c.retained with periodic := startTimer c.image.settings.storeInterval } := by
    rw [blocks]
  rw [image, retained, rate]
  refine ⟨by rw [blocks], by rw [blocks, lines], fun copy => ?_, fun m g copy => ?_, started, by rw [blocks],
    fun p => ?_, raised, rfl, ?_, ?_, rfl, ?_, ?_, ?_, ?_, ?_⟩
  · have pending := defaulted
    rw [bad copy] at pending ⊢
    exact ⟨rfl, rfl, rfl, rfl, pending rfl⟩
  · rw [good m g copy]
    have kept := RecordOnly.closeAll { s with image := m, retained := { s.retained with generation := g } } .scrapPower
    exact ⟨rfl, rfl, openTable_closeAll .., kept.image.settings, kept.image.tuning, kept.image.slots,
      kept.image.assigned, kept.image.nextSerial, oldest_closeAll .., fun none => by
        rw [closeAll_empty none]; exact ⟨rfl, rfl⟩, rfl, rfl⟩
  · split
    · next stands => exact (presses p).1 stands
    · next fails => exact (presses p).2 fails
  · rw [closed]
  · rw [closed]
  all_goals rw [blocks, closed]

end Sys2Proof.Machine.PressCycle

/-!
PROOF. Cure accounting: one boundary counted for a press in CURING (O43).
-/

namespace Sys2Proof.Machine.CureAccounting

/-! ## The band lookup (R109, R160) -/

section LastWrite

variable {α β : Type} {l : List α} {f : α → β} {P : α → Prop} [DecidablePred P] {w : β}

/-- Writes under a condition that no entry meets leave the value they began with. -/
theorem foldl_write_none (h : ∀ i ∈ l, ¬ P i) : l.foldl (fun w i => if P i then f i else w) w = w := by
  induction l generalizing w with
  | nil => rfl
  | cons a l ih =>
    rw [List.foldl_cons, if_neg (h a List.mem_cons_self)]
    exact ih fun i hi => h i (List.mem_cons_of_mem a hi)

/-- Of writes in ascending order the last entry that meets the condition remains. -/
theorem foldl_write_last [LT α] {i : α} (sorted : l.Pairwise (· < ·)) (mem : i ∈ l) (meets : P i)
    (last : ∀ j ∈ l, i < j → ¬ P j) : l.foldl (fun w i => if P i then f i else w) w = f i := by
  induction l generalizing w with
  | nil => cases mem
  | cons a l ih =>
    obtain ⟨above, sorted⟩ := List.pairwise_cons.mp sorted
    have later : ∀ j ∈ l, i < j → ¬ P j := fun j hj => last j (List.mem_cons_of_mem a hj)
    rw [List.foldl_cons]
    rcases List.mem_cons.mp mem with rfl | mem
    · rw [if_pos meets]
      exact foldl_write_none fun j hj => later j hj (above j hj)
    · exact ih sorted mem later

end LastWrite

theorem bandWeight_below {r : Recipe} {tc : Int}
    (below : ∀ i : Fin 8, i.val < r.bandCount → tc < (r.bands.get i).lower) : r.bandWeight tc = 0 :=
  foldl_write_none fun i hi => Int.not_le.mpr (below i (by simpa using hi))

theorem bandWeight_band {r : Recipe} {tc : Int} {i : Fin 8} (inUse : i.val < r.bandCount)
    (reached : ((r.bands.get i).lower : Int) ≤ tc)
    (last : ∀ j : Fin 8, i < j → j.val < r.bandCount → tc < (r.bands.get j).lower) :
    r.bandWeight tc = (r.bands.get i).weight :=
  foldl_write_last (f := fun i => (r.bands.get i).weight) ((List.pairwise_lt_finRange 8).filter _)
    (by simpa using inUse) reached fun j hj above => Int.not_le.mpr (last j above (by simpa using hj))

/-! ## The coldest usable zone (R106 to R110) -/

theorem coldest_eq_min? (l : List Int) : coldest l = l.min? := by
  induction l with
  | nil => rfl
  | cons t l ih => rw [coldest, ih, List.min?_cons]; cases l.min? <;> rfl

theorem usable_iff (z : Zone) : z.usable = true ↔ z.state = .active ∧ z.valid = true := by
  simp [Zone.usable]

theorem mem_usablePvs {s : State} {p : Fin 4} {tc : Int} :
    tc ∈ s.usablePvs p ↔ ∃ i, (s.zone (zoneAt p i)).usable = true ∧ (s.zone (zoneAt p i)).pv = tc := by
  simp [State.usablePvs]

theorem coldest_usablePvs {s : State} {p : Fin 4} {tc : Int}
    (attained : ∃ i, (s.zone (zoneAt p i)).usable = true ∧ (s.zone (zoneAt p i)).pv = tc)
    (least : ∀ i, (s.zone (zoneAt p i)).usable = true → tc ≤ (s.zone (zoneAt p i)).pv) :
    coldest (s.usablePvs p) = some tc := by
  rw [coldest_eq_min?, List.min?_eq_some_iff]
  refine ⟨mem_usablePvs.mpr attained, fun t ht => ?_⟩
  obtain ⟨i, usable, rfl⟩ := mem_usablePvs.mp ht
  exact least i usable

theorem bothPlatens_iff (s : State) (p : Fin 4) :
    s.bothPlatens p = true ↔
      ((s.zone (zoneAt p 0)).usable = true ∨ (s.zone (zoneAt p 1)).usable = true ∨
          (s.zone (zoneAt p 2)).usable = true) ∧
        ((s.zone (zoneAt p 3)).usable = true ∨ (s.zone (zoneAt p 4)).usable = true ∨
          (s.zone (zoneAt p 5)).usable = true) := by
  simp [State.bothPlatens, State.upperUsable, State.lowerUsable, or_assoc]

theorem frameCounts_iff (s : State) (p : Fin 4) :
    s.frameCounts p = true ↔ (s.press p).dip = false ∧ s.bothPlatens p = true := by
  simp [State.frameCounts]

theorem colder_eq (old : Option Int) (tc : Int) :
    colder old tc = some (match old with
      | none => tc
      | some m => min m tc) := by
  cases old with
  | none => rfl
  | some m => simp only [colder]; split <;> congr 1 <;> omega

theorem warmer_eq (old : Option Int) (tc : Int) :
    warmer old tc = some (match old with
      | none => tc
      | some m => max m tc) := by
  cases old with
  | none => rfl
  | some m => simp only [warmer]; split <;> congr 1 <;> omega

/-! ## The figures of a boundary (R105 to R111) -/

section Figures

variable {s : State} {p : Fin 4} {r : Recipe}

theorem countedCure_counts {tc : Int} (counts : s.frameCounts p = true) (cold : coldest (s.usablePvs p) = some tc) :
    s.countedCure p r =
      { ({ (s.press p).cure with loss := !s.bothPlatens p } : Cure).earn r tc with
        wall := satAdd 65535 (s.press p).cure.wall 1 } := by
  simp only [State.countedCure, counts, cold]
  rfl

theorem countedCure_freezes (frozen : s.frameCounts p = false) :
    s.countedCure p r =
      { ({ (s.press p).cure with loss := !s.bothPlatens p } : Cure).freeze with
        wall := satAdd 65535 (s.press p).cure.wall 1 } := by
  simp only [State.countedCure, frozen]
  rfl

/-- What every boundary does, counting or not: the wall frames grow, the loss flag is set, and the target, the verdict
and the two flags of the completion stay as they are. -/
theorem countedCure_always (s : State) (p : Fin 4) (r : Recipe) :
    let c := s.countedCure p r
    c.wall = min 65535 ((s.press p).cure.wall + 1) ∧ c.loss = !s.bothPlatens p ∧
      c.target = (s.press p).cure.target ∧ c.verdict = (s.press p).cure.verdict ∧
      c.done = (s.press p).cure.done ∧ c.limit = (s.press p).cure.limit := by
  simp only [State.countedCure, HeaterPower.satAdd_eq]
  split <;> exact ⟨rfl, rfl, rfl, rfl, rfl, rfl⟩

/-- The two tests made on a boundary's figures: their flags become yes, or stay (R112, R113). -/
def flagged (c : Cure) (r : Recipe) : Cure :=
  { c with done := c.done || c.completes r, limit := c.limit || c.limits r }

/-- The Cure Accountant after the boundary: the figures with CURE_DONE's and CURE_LIMIT's flags. -/
def cureAfter (s : State) (p : Fin 4) (r : Recipe) : Cure := flagged (s.countedCure p r) r

theorem cureAfter_always (s : State) (p : Fin 4) (r : Recipe) :
    (cureAfter s p r).wall = min 65535 ((s.press p).cure.wall + 1) ∧
      (cureAfter s p r).target = (s.press p).cure.target ∧ (cureAfter s p r).verdict = (s.press p).cure.verdict := by
  obtain ⟨wall, -, target, verdict, -, -⟩ := countedCure_always s p r
  exact ⟨wall, target, verdict⟩

theorem cureAfter_loss : (cureAfter s p r).loss = true ↔ ¬ s.bothPlatens p = true := by
  obtain ⟨-, loss, -⟩ := countedCure_always s p r
  change (s.countedCure p r).loss = true ↔ _
  rw [loss]
  simp

theorem cureAfter_counts {tc : Int} (counts : s.frameCounts p = true) (cold : coldest (s.usablePvs p) = some tc) :
    (cureAfter s p r).credit = min 1000000 ((s.press p).cure.credit + r.bandWeight tc) ∧
      (cureAfter s p r).frozen = (s.press p).cure.frozen ∧
      (cureAfter s p r).coldMin = some (match (s.press p).cure.coldMin with
        | none => tc
        | some m => min m tc) ∧
      (cureAfter s p r).coldMax = some (match (s.press p).cure.coldMax with
        | none => tc
        | some m => max m tc) := by
  rw [cureAfter, flagged, countedCure_counts counts cold]
  exact ⟨HeaterPower.satAdd_eq .., rfl, colder_eq .., warmer_eq ..⟩

theorem cureAfter_freezes (frozen : s.frameCounts p = false) :
    (cureAfter s p r).credit = (s.press p).cure.credit ∧
      (cureAfter s p r).frozen = min 65535 ((s.press p).cure.frozen + 1) ∧
      (cureAfter s p r).coldMin = (s.press p).cure.coldMin ∧
      (cureAfter s p r).coldMax = (s.press p).cure.coldMax := by
  rw [cureAfter, flagged, countedCure_freezes frozen]
  exact ⟨rfl, HeaterPower.satAdd_eq .., rfl, rfl⟩

/-! ## The flags and the opening (R86, R112, R113) -/

theorem flagged_done {c : Cure} : (flagged c r).done = true ↔
    c.done = true ∨ (c.target ≤ c.credit ∧ r.minCure ≤ c.wall) := by
  cases h : c.done <;> simp [flagged, Cure.completes, h]

theorem flagged_limit {c : Cure} : (flagged c r).limit = true ↔ c.limit = true ∨ c.wall = r.maxCure := by
  cases h : c.limit <;> simp [flagged, Cure.limits, h]

/-- The completion test succeeds exactly when it makes the flag yes. -/
theorem completes_iff_flagged {c : Cure} : c.completes r = true ↔ (flagged c r).done = true ∧ c.done = false := by
  cases h : c.done <;> simp [flagged, Cure.completes, h]

/-- The time-limit test succeeds exactly when it makes the flag yes. -/
theorem limits_iff_flagged {c : Cure} : c.limits r = true ↔ (flagged c r).limit = true ∧ c.limit = false := by
  cases h : c.limit <;> simp [flagged, Cure.limits, h]

theorem cureAfter_done : (cureAfter s p r).done = true ↔
    (s.press p).cure.done = true ∨
      ((cureAfter s p r).target ≤ (cureAfter s p r).credit ∧ r.minCure ≤ (cureAfter s p r).wall) := by
  obtain ⟨-, -, -, -, done, -⟩ := countedCure_always s p r
  rw [← done]
  exact flagged_done

theorem cureAfter_limit : (cureAfter s p r).limit = true ↔
    (s.press p).cure.limit = true ∨ (cureAfter s p r).wall = r.maxCure := by
  obtain ⟨-, -, -, -, -, limit⟩ := countedCure_always s p r
  rw [← limit]
  exact flagged_limit

theorem countedCure_completes : (s.countedCure p r).completes r = true ↔
    (cureAfter s p r).done = true ∧ (s.press p).cure.done = false := by
  obtain ⟨-, -, -, -, done, -⟩ := countedCure_always s p r
  rw [← done]
  exact completes_iff_flagged

theorem countedCure_limits : (s.countedCure p r).limits r = true ↔
    (cureAfter s p r).limit = true ∧ (s.press p).cure.limit = false := by
  obtain ⟨-, -, -, -, -, limit⟩ := countedCure_always s p r
  rw [← limit]
  exact limits_iff_flagged

theorem autoOpens_iff : s.autoOpens p r = true ↔
    r.autoOpen = true ∧
      (((cureAfter s p r).done = true ∧ (s.press p).cure.done = false) ∨
        ((cureAfter s p r).limit = true ∧ (s.press p).cure.limit = false ∧ (s.press p).cure.done = false)) := by
  obtain ⟨-, -, -, -, done, -⟩ := countedCure_always s p r
  simp only [State.autoOpens, Bool.and_eq_true, Bool.or_eq_true, Bool.not_eq_true', countedCure_completes,
    countedCure_limits, done, and_assoc]

end Figures

/-! ## The events of a boundary (R107, R112, R113, R196) -/

/-- A kind raised on a source, or nothing. -/
def raiseIf (b : Bool) (src : Source) (k : EventKind) (s : State) : State := if b then s.raise src k else s

theorem raiseIf_eq (b : Bool) (src : Source) (k : EventKind) (s : State) :
    raiseIf b src k s = { s with link := (raiseIf b src k s).link } := by
  cases b <;> rfl

theorem mem_raiseIf (b : Bool) (src : Source) (j : EventKind) (s : State) (i : Fin 6) (k : EventKind) :
    k ∈ (raiseIf b src j s).link.pending.get i ↔
      k ∈ s.link.pending.get i ∨ i = src.index ∧ k = j ∧ b = true := by
  cases b with
  | false => simp [raiseIf]
  | true => simpa [raiseIf] using ChargeWeighing.mem_raise s src j i k

/-- The state with the boundary's events raised for the press. -/
def withEvents (s : State) (p : Fin 4) (r : Recipe) : State :=
  let c := s.countedCure p r
  raiseIf (c.limits r) (.press p) .cureLimit
    (raiseIf (c.completes r) (.press p) .cureDone
      (raiseIf (c.loss && !(s.press p).cure.loss) (.press p) .heatLoss s))

section Events

variable {s : State} {p : Fin 4} {r : Recipe}

theorem withEvents_eq : withEvents s p r = { s with link := (withEvents s p r).link } := by
  unfold withEvents
  dsimp only
  rw [raiseIf_eq, raiseIf_eq (Cure.completes _ _), raiseIf_eq (_ && _)]

theorem countedCure_loses : ((s.countedCure p r).loss && !(s.press p).cure.loss) = true ↔
    (cureAfter s p r).loss = true ∧ (s.press p).cure.loss = false := by
  rw [Bool.and_eq_true, Bool.not_eq_true']
  rfl

theorem mem_withEvents (i : Fin 6) (k : EventKind) :
    k ∈ (withEvents s p r).link.pending.get i ↔
      k ∈ s.link.pending.get i ∨
        (i = (Source.press p).index ∧
          ((k = .heatLoss ∧ (cureAfter s p r).loss = true ∧ (s.press p).cure.loss = false) ∨
            (k = .cureDone ∧ (cureAfter s p r).done = true ∧ (s.press p).cure.done = false) ∨
            (k = .cureLimit ∧ (cureAfter s p r).limit = true ∧ (s.press p).cure.limit = false))) := by
  unfold withEvents
  rw [mem_raiseIf, mem_raiseIf, mem_raiseIf, countedCure_completes, countedCure_limits, countedCure_loses]
  simp only [and_or_left, or_assoc]

theorem withEvents_quiet (loss : ¬ ((cureAfter s p r).loss = true ∧ (s.press p).cure.loss = false))
    (done : ¬ ((cureAfter s p r).done = true ∧ (s.press p).cure.done = false))
    (limit : ¬ ((cureAfter s p r).limit = true ∧ (s.press p).cure.limit = false)) : withEvents s p r = s := by
  rw [← countedCure_loses, Bool.not_eq_true] at loss
  rw [← countedCure_completes, Bool.not_eq_true] at done
  rw [← countedCure_limits, Bool.not_eq_true] at limit
  simp only [withEvents, loss, done, limit]
  rfl

/-! ## The boundary as a whole -/

/-- A boundary changes the press's cure, the cure summary of its bound part's record, and the Link Port's events. -/
theorem countFrame_eq {b : Bound} (bound : (s.press p).bound = some b) :
    s.countFrame p r =
      { s with
        presses := s.presses.set p { s.press p with cure := cureAfter s p r },
        image :=
          { s.image with
            openTable := s.image.openTable.map fun o =>
              if o.record.serial = b.serial then o.onCure fun u => u.withFigures (cureAfter s p r) else o },
        retained := { s.retained with generation := nextGeneration s.retained.generation },
        link := (withEvents s p r).link } := by
  have counted : s.countFrame p r =
      ((withEvents s p r).modPress p fun x => { x with cure := cureAfter s p r }).writeBound p
        fun o => o.onCure fun u => u.withFigures (cureAfter s p r) := rfl
  rw [counted, withEvents_eq, PressCycle.writeBound_bound (by rw [State.press_modPress]; exact bound)]
  rfl

end Events

/-- Settles O43: the frame counted or frozen, its flags, and the events it raises. -/
theorem aBoundaryCountsOneCureFrame : Obligations.ABoundaryCountsOneCureFrame := by
  unfold Obligations.ABoundaryCountsOneCureFrame
  intro s p r b bound x usable platens t c
  have counted : t = _ := countFrame_eq (r := r) bound
  have press : t.press p = { x with cure := cureAfter s p r } := by rw [counted]; exact Tab.get_set_same ..
  have cure : c = cureAfter s p r := congrArg Press.cure press
  have link : t.link = (withEvents s p r).link := by rw [counted]
  have both : s.bothPlatens p = true ↔ platens := by simp only [bothPlatens_iff, usable_iff, platens, usable]
  clear_value c
  subst cure
  obtain ⟨wall, target, verdict⟩ := cureAfter_always s p r
  refine ⟨wall, target, verdict, cureAfter_loss.trans (not_congr both), fun usables steady tc attained least => ?_,
    fun stopped => cureAfter_freezes ?_, cureAfter_done, cureAfter_limit, fun i k => ?_, fun loss done limit => ?_,
    autoOpens_iff, ?_, press, fun q hq => (PressOnly.countFrame s r).others q hq, by rw [counted], by rw [counted]⟩
  · have cold : coldest (s.usablePvs p) = some tc :=
      coldest_usablePvs (by simpa only [usable_iff] using attained) (by simpa only [usable_iff] using least)
    have counts : s.frameCounts p = true := (frameCounts_iff s p).mpr ⟨steady, both.mpr usables⟩
    exact ⟨r.bandWeight tc, bandWeight_below, fun i => bandWeight_band, cureAfter_counts counts cold⟩
  · rw [Bool.eq_false_iff, Ne, frameCounts_iff, both]
    rintro ⟨steady, usables⟩
    exact stopped.elim (fun dip => Bool.false_ne_true (steady.symm.trans dip)) (· usables)
  · rw [link]
    exact mem_withEvents i k
  · rw [link, withEvents_quiet loss done limit]
  · rw [counted]
    rfl

end Sys2Proof.Machine.CureAccounting

/-!
PROOF. The serials that an image and the presses hold, and the closing procedure that takes one from its press and moves
it to the closed records (R122, R123, R128).
-/

namespace Sys2Proof.Machine.PartRecords

open ChargeWeighing PressCycle

/-! ## The serials of an image (R122, R123) -/

/-- The images hold the same serials, open and closed, the open ones for the same presses, and the same next serial. -/
structure SameSerials (m n : Image) : Prop where
  open_ : (n.openTable.map fun o => (o.record.press, o.record.serial)) =
    m.openTable.map fun o => (o.record.press, o.record.serial)
  closed : n.ring.uncollected.map Record.serial = m.ring.uncollected.map Record.serial
  next : n.nextSerial = m.nextSerial

theorem SameSerials.refl (m : Image) : SameSerials m m := ⟨rfl, rfl, rfl⟩

/-- A change of the open records that leaves to each its press and its serial. -/
theorem SameSerials.map {m n : Image} {f : OpenRecord → OpenRecord} (table : n.openTable = m.openTable.map f)
    (ring : n.ring = m.ring) (next : n.nextSerial = m.nextSerial)
    (hf : ∀ o, (f o).record.press = o.record.press ∧ (f o).record.serial = o.record.serial) : SameSerials m n := by
  refine ⟨?_, by rw [ring], next⟩
  rw [table, List.map_map]
  refine List.map_congr_left fun o _ => ?_
  obtain ⟨press, serial⟩ := hf o
  rw [Function.comp_apply, press, serial]

theorem open_serials_eq (m : Image) :
    m.openTable.map (fun o => o.record.serial) =
      (m.openTable.map fun o => (o.record.press, o.record.serial)).map Prod.snd := by
  rw [List.map_map]
  rfl

theorem serialsOf_eq (m : Image) (p : Fin 4) :
    m.serialsOf p =
      ((m.openTable.map fun o => (o.record.press, o.record.serial)).filter fun x => decide (x.1 = p)).map Prod.snd := by
  rw [Image.serialsOf, List.filter_map, List.map_map]
  rfl

theorem SameSerials.serials {m n : Image} (h : SameSerials m n) : n.serials = m.serials := by
  rw [Image.serials, Image.serials, open_serials_eq, open_serials_eq, h.open_, h.closed]

theorem SameSerials.serialsOf {m n : Image} (h : SameSerials m n) (p : Fin 4) : n.serialsOf p = m.serialsOf p := by
  rw [serialsOf_eq, serialsOf_eq, h.open_]

/-- Serials that were all there, each once, under the same next serial. -/
theorem serialsSound_of_subperm {m n : Image} (serials : n.serials.Subperm m.serials)
    (next : n.nextSerial = m.nextSerial) (h : m.serialsSound) : n.serialsSound := by
  obtain ⟨distinct, range⟩ := h
  obtain ⟨l, perm, sub⟩ := serials
  refine ⟨perm.nodup_iff.mp (distinct.sublist sub), fun k hk => ?_⟩
  rw [next]
  exact range k (sub.subset (perm.mem_iff.mpr hk))

theorem SameSerials.serialsSound {m n : Image} (h : SameSerials m n) : m.serialsSound → n.serialsSound :=
  serialsSound_of_subperm (by rw [h.serials]) h.next

theorem serialsSound_default : Image.default.serialsSound :=
  ⟨List.nodup_nil, fun _ hn => absurd hn List.not_mem_nil⟩

/-- The serials of the open records are distinct. -/
theorem open_nodup {m : Image} (h : m.serialsSound) : (m.openTable.map fun o => o.record.serial).Nodup := by
  obtain ⟨distinct, -⟩ := h
  exact distinct.of_append_left

theorem mem_serialsOf {m : Image} {p : Fin 4} {n : Nat} :
    n ∈ m.serialsOf p ↔ ∃ o ∈ m.openTable, o.record.press = p ∧ o.record.serial = n := by
  simp [Image.serialsOf, and_assoc]

theorem nodup_serialsOf {m : Image} (h : m.serialsSound) (p : Fin 4) : (m.serialsOf p).Nodup :=
  (open_nodup h).sublist (List.filter_sublist.map _)

/-! ## The closing procedure (R128) -/

/-- A closing takes one serial from the open records, and leaves the order of the rest. -/
theorem serialsOf_closeRecord (s : State) (n : Nat) (d : Disposition) (c : Option PressFault) (p : Fin 4) :
    (s.closeRecord n d c).image.serialsOf p = (s.image.serialsOf p).filter fun k => !decide (k = n) := by
  rw [Image.serialsOf, openTable_closeRecord, Image.serialsOf, List.filter_map, List.filter_filter, List.filter_filter]
  congr 1
  exact List.filter_congr fun o _ => Bool.and_comm ..

/-- A closing moves a serial from the open records to the closed ones. -/
theorem serials_closeRecord (s : State) (n : Nat) (d : Disposition) (c : Option PressFault)
    (sound : s.image.serialsSound) (room : s.image.recordCount ≤ 1024) :
    (s.closeRecord n d c).image.serials.Perm s.image.serials := by
  cases found : s.image.openRecord n with
  | none => rw [closeRecord_absent found]
  | some o =>
    have listed : o ∈ s.image.openTable := List.mem_of_find?_eq_some found
    have serial : o.record.serial = n := serial_of_openRecord found
    have free : s.image.ring.count < 1024 := by
      have := List.length_pos_of_mem listed
      rw [Image.recordCount] at room
      omega
    have left : (s.image.openTable.filter fun q => !decide (q.record.serial = n)).map (fun q => q.record.serial) =
        (s.image.openTable.map fun q => q.record.serial).erase n := by
      rw [(open_nodup sound).erase_eq_filter, List.filter_map]
      congr 1
    have moved : [o.record.closed d c s.clock.stamp].map Record.serial = [n] := by rw [← serial]; rfl
    have mem : n ∈ s.image.openTable.map fun q => q.record.serial := List.mem_map.mpr ⟨o, listed, serial⟩
    have taken := List.perm_cons_erase mem
    rw [closeRecord_found found, Image.serials, Image.serials, left, Ring.uncollected_append free, List.map_append,
      moved, ← List.append_assoc]
    exact (List.perm_append_singleton ..).trans (taken.symm.append_right _)

theorem serialsSound_closeRecord {s : State} (sound : s.image.serialsSound) (room : s.image.recordCount ≤ 1024)
    (n : Nat) (d : Disposition) (c : Option PressFault) : (s.closeRecord n d c).image.serialsSound :=
  serialsSound_of_subperm (serials_closeRecord s n d c sound room).subperm
    (RecordOnly.closeRecord s n d c).image.nextSerial sound

/-- Every open record closed leaves the serials sound. -/
theorem serialsSound_closeAll {s : State} (sound : s.image.serialsSound) (room : s.image.recordCount ≤ 1024)
    (d : Disposition) : (s.closeAll d).image.serialsSound := by
  rw [closeAll_eq]
  generalize s.image.openSerials = l
  induction l generalizing s with
  | nil => exact sound
  | cons n l ih =>
    exact ih (serialsSound_closeRecord sound room n d none)
      ((RecordOnly.closeRecord s n d none).image.count.trans room)

/-! ## Presses and records in step (R122) -/

/-- The open records of each press are those of its tickets and its bound part, the serials of every image are sound,
and the working image keeps to its room. -/
structure Filed (s : State) : Prop where
  owned : ∀ p, (s.press p).serials.Perm (s.image.serialsOf p)
  sound : s.image.serialsSound
  stored : ∀ m ∈ s.retained.images, m.serialsSound
  room : s.image.recordCount ≤ 1024

namespace Filed

variable {s t : State}

/-- Presses and images that hold the same serials as before. -/
theorem of_same (h : Filed s) (serials : ∀ p, (t.press p).serials = (s.press p).serials)
    (image : SameSerials s.image t.image) (stored : ∀ m ∈ t.retained.images, m = s.image ∨ m ∈ s.retained.images)
    (room : t.image.recordCount ≤ s.image.recordCount) : Filed t := by
  refine ⟨fun p => ?_, image.serialsSound h.sound, fun m hm => ?_, room.trans h.room⟩
  · rw [serials, image.serialsOf]
    exact h.owned p
  · rcases stored m hm with rfl | hm
    · exact h.sound
    · exact h.stored m hm

/-- No press holds anything, and no record is open. -/
theorem of_empty (serials : ∀ p, (t.press p).serials = []) (table : t.image.openTable = [])
    (sound : t.image.serialsSound) (stored : ∀ m ∈ t.retained.images, m.serialsSound)
    (room : t.image.recordCount ≤ 1024) : Filed t := by
  refine ⟨fun p => ?_, sound, stored, room⟩
  rw [serials, Image.serialsOf, table]
  exact List.Perm.refl _

theorem nodup_serials (h : Filed s) (p : Fin 4) : (s.press p).serials.Nodup :=
  (h.owned p).nodup_iff.mpr (nodup_serialsOf h.sound p)

/-- A serial is held by one press. -/
theorem press_unique (h : Filed s) {p q : Fin 4} {n : Nat} (hp : n ∈ (s.press p).serials)
    (hq : n ∈ (s.press q).serials) : q = p := by
  obtain ⟨o, ho, rfl, rfl⟩ := mem_serialsOf.mp ((h.owned p).mem_iff.mp hp)
  obtain ⟨o', ho', rfl, serial⟩ := mem_serialsOf.mp ((h.owned q).mem_iff.mp hq)
  rw [List.inj_on_of_nodup_map (open_nodup h.sound) ho' ho serial]

/-- The record of a part that a press holds is closed, and the press holds that part no longer. -/
theorem close (h : Filed s) {p : Fin 4} {n : Nat} (held : n ∈ (s.press p).serials) {d : Disposition}
    {c : Option PressFault} (image : t.image = (s.closeRecord n d c).image)
    (stored : t.retained.images = s.retained.images)
    (press : (t.press p).serials = (s.press p).serials.filter fun k => !decide (k = n))
    (others : ∀ q, q ≠ p → (t.press q).serials = (s.press q).serials) : Filed t := by
  refine ⟨fun q => ?_, ?_, by rw [stored]; exact h.stored, ?_⟩
  · have kept : (t.press q).serials = (s.press q).serials.filter fun k => !decide (k = n) := by
      by_cases hq : q = p
      · rw [hq, press]
      · rw [others q hq]
        refine (List.filter_eq_self.mpr fun k hk => ?_).symm
        have other : k ≠ n := fun e => hq (h.press_unique held (e ▸ hk))
        simp [other]
    rw [kept, image, serialsOf_closeRecord]
    exact (h.owned q).filter _
  · rw [image]
    exact serialsSound_closeRecord h.sound h.room n d c
  · rw [image]
    exact (RecordOnly.closeRecord s n d c).image.count.trans h.room

/-- The part bound to a press has no ticket in its queue. -/
theorem bound_not_queued (h : Filed s) {p : Fin 4} {b : Bound} (bound : (s.press p).bound = some b) :
    b.serial ∉ (s.press p).tickets.map Ticket.serial := fun hb => by
  have distinct := h.nodup_serials p
  rw [Press.serials, bound] at distinct
  exact List.disjoint_of_nodup_append distinct hb (List.mem_singleton_self _)

theorem closeBound (h : Filed s) (p : Fin 4) (d : Disposition) (c : Option PressFault) :
    Filed (s.closeBound p d c) := by
  cases bound : (s.press p).bound with
  | none => rw [closeBound_unbound bound]; exact h
  | some b =>
    have only := PressOnly.closeBound (p := p) s d c
    have serials : (s.press p).serials = (s.press p).tickets.map Ticket.serial ++ [b.serial] := by
      rw [Press.serials, bound]; rfl
    refine h.close (p := p) (n := b.serial) (d := d) (c := c) ?_ ?_ ?_ ?_ fun q hq => ?_
    · rw [serials]; exact List.mem_append_right _ (List.mem_singleton_self _)
    · rw [closeBound_bound bound]; rfl
    · rw [only.eq]; rfl
    · have emptied : ((s.closeBound p d c).press p).serials = (s.press p).tickets.map Ticket.serial := by
        rw [press_closeBound, Press.serials]
        exact List.append_nil _
      have left : ((s.press p).tickets.map Ticket.serial).filter (fun k => !decide (k = b.serial)) =
          (s.press p).tickets.map Ticket.serial :=
        List.filter_eq_self.mpr fun k hk => by
          have other : k ≠ b.serial := fun e => h.bound_not_queued bound (e ▸ hk)
          simp [other]
      rw [emptied, serials, List.filter_append, left]
      simp
    · rw [only.others q hq]

/-- A ticket leaves the queue as its record is closed (R75). -/
theorem expireTicket (h : Filed s) (p : Fin 4) (n : Nat) : Filed (s.expireTicket p n) := by
  by_cases queued : (s.press p).tickets.any (fun t => decide (t.serial = n)) = true
  · have only := PressOnly.expireTicket (p := p) s n
    have held : n ∈ (s.press p).tickets.map Ticket.serial := by simpa using queued
    have expired : s.expireTicket p n = ((s.closeRecord n .scrapExpired none).modPress p fun x =>
        { x with tickets := x.tickets.filter fun t => !decide (t.serial = n) }).raise (.press p) .ticketExpired :=
      if_pos queued
    have same : (s.closeRecord n .scrapExpired none).press p = s.press p := press_of_records (.closeRecord ..) p
    have boundKept : ((s.press p).bound.map Bound.serial).toList.filter (fun k => !decide (k = n)) =
        ((s.press p).bound.map Bound.serial).toList := by
      cases bound : (s.press p).bound with
      | none => rfl
      | some b =>
        have other : b.serial ≠ n := fun e => h.bound_not_queued bound (e ▸ held)
        simp [other]
    refine h.close (p := p) (n := n) (d := .scrapExpired) (c := none) (List.mem_append_left _ held) ?_ ?_ ?_
      fun q hq => ?_
    · rw [expired]; rfl
    · rw [only.eq]; rfl
    · have left : (s.expireTicket p n).press p =
          { s.press p with tickets := (s.press p).tickets.filter fun t => !decide (t.serial = n) } := by
        rw [expired]
        change (State.modPress ..).press p = _
        rw [State.press_modPress, same]
      rw [left, Press.serials, Press.serials, List.filter_append, boundKept, List.filter_map]
      rfl
    · rw [only.others q hq]
  · rw [State.expireTicket, if_neg queued]
    exact h

end Filed

end Sys2Proof.Machine.PartRecords

/-!
PROOF. The ring: what writing into an uncollected record changes (R131, R136).
-/

namespace Sys2Proof.Machine.PartRecords

/-! ## A record written in its place -/

theorem record_lt {r : Ring} {k : Nat} {q : Record} (h : r.record k = some q) : k < r.count := by
  by_contra hk
  rw [Ring.record, if_neg hk] at h
  cases h

/-- The record at an index is read at its place, and a write there is read by every index of that place. -/
theorem record_modRecord {r : Ring} {k : Nat} {q : Record} (h : r.record k = some q) (f : Record → Record) (j : Nat) :
    (r.modRecord k f).record j =
      if j < r.count ∧ r.placeOf j = r.placeOf k then some (f q) else r.record j := by
  have written : (r.modRecord k f) = { r with places := writePlace (r.placeOf k) (f q) r.places } := by
    rw [Ring.modRecord, h]
  have read : (r.modRecord k f).record j =
      if j < r.count then readPlace (r.placeOf j) (writePlace (r.placeOf k) (f q) r.places) else none := by
    rw [written]; rfl
  rw [read]
  by_cases hj : j < r.count
  · by_cases place : r.placeOf j = r.placeOf k
    · rw [if_pos hj, if_pos ⟨hj, place⟩, place, readPlace_writePlace]
    · rw [if_pos hj, if_neg fun h => place h.2, readPlace_writePlace_other place, Ring.record, if_pos hj]
  · rw [if_neg hj, if_neg fun h => hj h.1, Ring.record, if_neg hj]

/-- Within a ring that is not overfull each index has a place of its own. -/
theorem placeOf_inj {r : Ring} (room : r.count ≤ 1024) {j k : Nat} (hj : j < r.count) (hk : k < r.count)
    (h : r.placeOf j = r.placeOf k) : j = k := by
  unfold Ring.placeOf at h
  omega

/-- A record written in place, and no other changed. -/
theorem record_modRecord_eq {r : Ring} (room : r.count ≤ 1024) {k : Nat} {q : Record} (h : r.record k = some q)
    (f : Record → Record) (j : Nat) :
    (r.modRecord k f).record j = if j = k then some (f q) else r.record j := by
  rw [record_modRecord h]
  refine if_congr ⟨fun ⟨hj, place⟩ => placeOf_inj room hj (record_lt h) place, ?_⟩ rfl rfl
  rintro rfl
  exact ⟨record_lt h, rfl⟩

@[simp] theorem oldest_modRecord (r : Ring) (k : Nat) (f : Record → Record) : (r.modRecord k f).oldest = r.oldest := by
  unfold Ring.modRecord
  split <;> rfl

/-- A write that keeps the record's serial keeps the serials of the ring. -/
theorem serials_modRecord (r : Ring) (k : Nat) {f : Record → Record} (hf : ∀ q, (f q).serial = q.serial) :
    (r.modRecord k f).uncollected.map Record.serial = r.uncollected.map Record.serial := by
  rw [Ring.uncollected, Ring.uncollected, Ring.count_modRecord, List.map_filterMap, List.map_filterMap]
  refine List.filterMap_congr fun j _ => ?_
  cases found : r.record k with
  | none => rw [Ring.modRecord, found]
  | some q =>
    rw [record_modRecord found]
    split
    · next same =>
      obtain ⟨hj, place⟩ := same
      have read : r.record j = some q := by
        rw [Ring.record, if_pos (record_lt found)] at found
        rw [Ring.record, if_pos hj, place, found]
      rw [read, Option.map_some, Option.map_some, hf]
    · rfl

end Sys2Proof.Machine.PartRecords

/-!
PROOF. The operations of a Press Sequencer and of a frame boundary keep the presses and their records in step (R122,
R123).
-/

namespace Sys2Proof.Machine.PartRecords

open ChargeWeighing PressCycle

/-! ## Keeping presses and records in step -/

/-- From `s` to `t` the part goes on in its phase, and the presses and their records stay in step. -/
structure Files (s t : State) : Prop where
  phase : t.phase = s.phase
  filed : Filed s → Filed t

/-- All that `Filed` reads of a state, and its phase. -/
def filing (s : State) : Phase × Tab Press 4 × List OpenRecord × Ring × Option Nat × List Image :=
  (s.phase, s.presses, s.image.openTable, s.image.ring, s.image.nextSerial, s.retained.images)

namespace Files

variable {s t u : State} {p : Fin 4}

theorem refl (s : State) : Files s s := ⟨rfl, id⟩

theorem trans (h : Files s t) (k : Files t u) : Files s u := ⟨k.phase.trans h.phase, k.filed ∘ h.filed⟩

theorem blind (s : State) : BlindToLink (Files s) := fun _ _ _ h =>
  ⟨h.phase, fun hs => ⟨(h.filed hs).owned, (h.filed hs).sound, (h.filed hs).stored, (h.filed hs).room⟩⟩

theorem answer (h : Files s t) (st : Status) (data : List Byte) : Files s (t.answer st data) :=
  (blind s).answer h st data

theorem answered (s : State) (st : Status) (data : List Byte) : Files s (s.answer st data) := (refl s).answer st data

theorem raise (h : Files s t) (src : Source) (k : EventKind) : Files s (t.raise src k) := (blind s).raise h src k

theorem modLink (h : Files s t) (f : Link → Link) : Files s (t.modLink f) := (blind s).link h _

/-- A state that differs in nothing that `Filed` reads. -/
theorem of_filing (h : filing t = filing s) : Files s t := by
  simp only [filing, Prod.mk.injEq] at h
  obtain ⟨phase, presses, table, ring, next, images⟩ := h
  refine ⟨phase, fun hs => hs.of_same (fun p => ?_) ⟨by rw [table], by rw [ring], next⟩
    (fun m hm => .inr (images ▸ hm)) ?_⟩
  · rw [State.press, presses]; rfl
  · rw [Image.recordCount, table, ring]; exact Nat.le_refl _

theorem historyTest (h : Files s t) : Files s t.historyTest := by
  refine h.trans (of_filing ?_)
  simp only [filing, State.historyTest_phase, State.historyTest_presses, State.historyTest_image,
    State.historyTest_retained]

theorem foldl {α : Type} {f : State → α → State} (hf : ∀ t a, Files t (f t a)) (l : List α) (s : State) :
    Files s (l.foldl f s) := by
  induction l generalizing s with
  | nil => exact refl s
  | cons a l ih => exact (hf s a).trans (ih _)

theorem serials_congr {x y : Press} (tickets : y.tickets.map Ticket.serial = x.tickets.map Ticket.serial)
    (bound : y.bound.map Bound.serial = x.bound.map Bound.serial) : y.serials = x.serials := by
  rw [Press.serials, Press.serials, tickets, bound]

/-- A press changed in anything but the serials it holds. -/
theorem modPress (s : State) {f : Press → Press} (hf : ∀ x, (f x).serials = x.serials := by exact fun _ => rfl) :
    Files s (s.modPress p f) := by
  refine ⟨rfl, fun h => h.of_same (fun q => ?_) (.refl _) (fun _ hm => .inr hm) (Nat.le_refl _)⟩
  by_cases hq : q = p
  · rw [hq, State.press_modPress, hf]
  · rw [State.press_modPress_other s hq]

/-- An open record written in anything but its press and its serial. -/
theorem writeOpen (s : State) (n : Nat) {f : OpenRecord → OpenRecord}
    (hf : ∀ o, (f o).record.press = o.record.press ∧ (f o).record.serial = o.record.serial := by
      exact fun _ => ⟨rfl, rfl⟩) : Files s (s.writeOpen n f) := by
  refine ⟨rfl, fun h => h.of_same (fun _ => rfl) (.map rfl rfl rfl fun o => ?_) (fun _ hm => .inr hm)
    (RecordOnly.writeOpen s n f).image.count⟩
  split
  · exact hf o
  · exact ⟨rfl, rfl⟩

theorem writeBound (s : State) {f : OpenRecord → OpenRecord}
    (hf : ∀ o, (f o).record.press = o.record.press ∧ (f o).record.serial = o.record.serial := by
      exact fun _ => ⟨rfl, rfl⟩) : Files s (s.writeBound p f) := by
  unfold State.writeBound
  split
  · exact writeOpen s _ hf
  · exact refl s

theorem closeBound (s : State) (d : Disposition) (c : Option PressFault) : Files s (s.closeBound p d c) :=
  ⟨by rw [(PressOnly.closeBound (p := p) s d c).eq], fun h => h.closeBound p d c⟩

/-! ### The press cycle (R71 to R97) -/

theorem fixVerdict (s : State) : Files s (s.fixVerdict p) :=
  (modPress s).trans (writeBound _)

theorem leaveCuring (s : State) : Files s (s.leaveCuring p) := by
  have marked : Files s (s.setOpenMark p) := of_filing rfl
  unfold State.leaveCuring
  split
  · exact marked.trans (fixVerdict _)
  · exact refl s

theorem enterFault (s : State) (c : PressFault) : Files s (s.enterFault p c) :=
  (((leaveCuring s).trans (modPress _)).trans (closeBound _ _ _)).raise _ _

theorem enterCuring (s : State) : Files s (s.enterCuring p) := by
  have marked (t : State) : Files t (t.setCloseMark p) := of_filing rfl
  exact ((modPress s).trans (marked _)).trans (writeBound _)

theorem beginDip (s : State) : Files s (s.beginDip p) :=
  ((modPress s).trans (writeBound _)).raise _ _

theorem startToOpen (s : State) : Files s (s.startToOpen p) := (leaveCuring s).trans (modPress _)

theorem beginStroke (s : State) (k : Nat) : Files s (s.beginStroke p k) := modPress s

theorem strokeBack (s : State) (k : Nat) : Files s (s.strokeBack p k) := modPress s

theorem enterUnload (s : State) : Files s (s.enterUnload p) := (modPress s).raise _ _

theorem openLimitReached (s : State) : Files s (s.openLimitReached p) := by
  unfold State.openLimitReached
  dsimp only
  split
  · exact (modPress s).trans (enterUnload _)
  · exact (modPress s).trans (beginStroke _ _)

theorem writeDemould (s : State) (n : Nat) (free : Bool) : Files s (s.writeDemould p n free) :=
  writeBound s

theorem endStroke (s : State) (k : Nat) : Files s (s.endStroke p k) := by
  have stopped : Files s (s.modPress p fun x => { x with strokeTimer := none }) := modPress s
  have counted (t : State) : Files t (t.bumpStuck p) := of_filing rfl
  unfold State.endStroke
  dsimp only
  split
  · exact (stopped.trans (writeDemould _ _ _)).trans (enterUnload _)
  · split
    · exact stopped.trans (beginStroke _ _)
    · exact ((stopped.trans (writeDemould _ _ _)).trans (counted _)).trans (enterFault _ _)

/-- Whatever condition the press waits for, meeting it keeps its records in step. -/
theorem pressCondition (h : s.pressCondition p = some t) : Files s t := by
  unfold State.pressCondition at h
  dsimp only at h
  split at h
  case h_1 => split at h <;> cases h; exact enterCuring s
  case h_2 =>
    split at h
    · split at h <;> cases h; exact modPress s
    · split at h <;> cases h; exact beginDip s
  case h_3 => split at h <;> cases h; exact openLimitReached s
  case h_4 =>
    split at h
    · split at h <;> cases h; exact strokeBack s _
    · split at h <;> cases h; exact endStroke s _
    · cases h
  case h_8 => cases h
  all_goals split at h <;> cases h; exact enterFault s _

theorem settled (s : State) : Files s (s.settled p) :=
  settled_induction (P := Files s) (fun _ _ h e => h.trans (pressCondition e)) (refl s)

/-- The ticket at the head of the queue becomes the bound part of a press that has none (R78). -/
theorem loadTicket {x : Ticket} (head : (s.press p).tickets.head? = some x) (free : (s.press p).bound = none) :
    Files s (s.loadTicket p x) := by
  have timed : Files s (s.writeLoadTime x.serial) := by
    unfold State.writeLoadTime
    split
    · exact writeOpen s _
    · exact refl s
  have same (q : Fin 4) : (s.writeLoadTime x.serial).press q = s.press q := press_of_records (.writeLoadTime ..) q
  refine timed.trans ⟨rfl, fun h => ⟨fun q => ?_, h.sound, h.stored, h.room⟩⟩
  by_cases hq : q = p
  · subst hq
    refine List.Perm.trans ?_ (h.owned q)
    obtain ⟨rest, queue⟩ := List.head?_eq_some_iff.mp head
    rw [State.loadTicket, State.press_modPress, same, Press.serials, Press.serials, queue, free]
    simp
  · rw [State.loadTicket, State.press_modPress_other _ hq]
    exact h.owned q

theorem startClosing (s : State) : Files s (s.startClosing p) := by
  have counted : Files s (s.bumpCycles p) := by
    unfold State.bumpCycles
    split
    · exact refl s
    · exact of_filing rfl
  refine counted.trans (modPress _ fun x => ?_)
  exact serials_congr rfl (Option.map_map ..)

theorem markAborted (s : State) : Files s (s.markAborted p) := writeBound s

theorem abortLoaded (s : State) : Files s (s.abortLoaded p) := (closeBound s _ _).trans (modPress _)

theorem releasePart (s : State) : Files s (s.releasePart p) := (closeBound s _ _).trans (modPress _)

/-! ### Pot life, the guard and the timers (R72, R75, R76, R81, R83, R90, R93) -/

theorem expireTicket (s : State) (n : Nat) : Files s (s.expireTicket p n) :=
  ⟨by rw [(PressOnly.expireTicket (p := p) s n).eq], fun h => h.expireTicket p n⟩

theorem expireBound (s : State) : Files s (s.expireBound p) := by
  unfold State.expireBound
  split
  · refine ((writeBound s).trans (modPress _ fun x => ?_)).raise _ _
    exact serials_congr rfl (Option.map_map ..)
  · exact refl s

theorem cutStroke (s : State) : Files s (s.cutStroke p) := by
  unfold State.cutStroke
  split
  · exact writeDemould s _ _
  · exact refl s

theorem guardAt (s : State) : Files s (s.guardAt p) := by
  unfold State.guardAt
  split
  · exact (cutStroke s).trans (enterFault _ _)
  · exact refl s

theorem closeExpires (s : State) : Files s (s.closeExpires p) := by
  unfold State.closeExpires
  split
  · exact enterFault s _
  · exact refl s

theorem openExpires (s : State) : Files s (s.openExpires p) := by
  unfold State.openExpires
  split
  · exact enterFault s _
  · exact refl s

theorem strokeExpires (s : State) : Files s (s.strokeExpires p) := by
  unfold State.strokeExpires
  split
  · exact (cutStroke s).trans (enterFault _ _)
  · exact refl s

theorem minOpenElapses (s : State) : Files s (s.minOpenElapses p) := modPress s

theorem guardFalls (s : State) : Files s s.guardFalls := by
  have low : Files s { s with inputs := { s.inputs with guardOk := false } } := of_filing rfl
  exact low.trans (foldl (fun t p => (blind t).oneChange (guardAt (p := p) t)) _ _)

/-! ### The boundary (R4, R28, R105) -/

theorem cutShort (s : State) : Files s (s.cutShort p) := by
  unfold State.cutShort
  split
  · exact fixVerdict s
  · exact cutStroke s

theorem countFrame (s : State) (r : Recipe) : Files s (s.countFrame p r) := by
  have told (t : State) (b : Bool) (k : EventKind) : Files t (if b then t.raise (.press p) k else t) := by
    split
    · exact (refl t).raise _ _
    · exact refl t
  unfold State.countFrame
  dsimp only
  exact ((((told s _ _).trans (told _ _ _)).trans (told _ _ _)).trans (modPress _)).trans
    (writeBound _)

theorem cureBoundary (s : State) : Files s (s.cureBoundary p) := by
  unfold State.cureBoundary
  split
  · split
    · dsimp only
      split
      · exact ((countFrame s _).trans (startToOpen _)).trans (settled _)
      · exact countFrame s _
    · exact refl s
  · exact refl s

theorem raiseZoneFault (s : State) (z : Fin 24) (found : Option ZoneFault) : Files s (s.raiseZoneFault z found) := by
  unfold State.raiseZoneFault
  split
  · exact (refl s).raise _ _
  · exact refl s

theorem takeReading (s : State) (z : Fin 24) (x : Reading) : Files s (s.takeReading z x) := by
  have read (f : Zone → Zone) : Files s (s.modZone z f) := of_filing rfl
  exact (read _).trans (raiseZoneFault _ _ _)

theorem zoneBoundary (s : State) : Files s s.zoneBoundary := by
  have readings (t : State) : Files t t.boundaryReadings := of_filing rfl
  have setpoints (t : State) : Files t t.boundarySetpoints := of_filing rfl
  have tested (t : State) (f : Fin 24 → Zone → Zone) : Files t { t with zones := t.zones.mapWith f } :=
    of_filing rfl
  have faults (t : State) : Files t t.boundaryFaults :=
    (tested t _).trans (foldl (fun u i => raiseZoneFault u i _) _ _)
  have demands (t : State) : Files t t.boundaryDemands := of_filing rfl
  have ready (t : State) (p : Fin 4) : Files t (t.readiness p) := by
    have marked (b : Bool) : Files t (t.modHeat p fun h => { h with ready := b }) := of_filing rfl
    unfold State.readiness
    dsimp only
    split
    · exact (marked _).raise _ _
    · exact marked _
  exact ((((readings s).trans (setpoints _)).trans (faults _)).trans (demands _)).trans (foldl ready _ _)

theorem allocate (s : State) : Files s s.allocate := by
  have charged (zones : Tab Zone 24) (t : State) (p : Fin 4) : Files t (t.chargeShortfall zones p) := by
    unfold State.chargeShortfall
    dsimp only
    split
    · exact refl t
    · split
      · exact ((refl t).raise _ _).trans (writeBound _)
      · exact (refl t).raise _ _
  have granted (zones : Tab Zone 24) (alloc : Alloc) : Files s { s with zones := zones, alloc := alloc } :=
    of_filing rfl
  exact (granted _ _).trans (foldl (charged _) _ _)

theorem boundary (s : State) : Files s s.boundary :=
  ((zoneBoundary s).trans (allocate _)).trans (foldl (fun t p => cureBoundary (p := p) t) _ _)

end Files

end Sys2Proof.Machine.PartRecords

/-!
PROOF. The other owners and events that keep the presses and their records in step: a capture, the ring, settings and
recipes (R53, R58 to R60, R123, R135, R136).
-/

namespace Sys2Proof.Machine.PartRecords

open ChargeWeighing PressCycle

/-! ## A charge weighed (R58 to R60, R123 to R125) -/

/-- One serial more, the next one in turn. -/
theorem serialsSound_added {m n : Image} {k : Nat} (serials : n.serials.Perm (k :: m.serials))
    (next : m.nextSerial = some k) (next' : n.nextSerial = serialAfter k) (range : 1 ≤ k ∧ k ≤ 4294967295)
    (h : m.serialsSound) : n.serialsSound := by
  obtain ⟨distinct, below⟩ := h
  have fresh : k ∉ m.serials := fun hk => by
    obtain ⟨-, -, less⟩ := below k hk
    exact Nat.lt_irrefl _ (less k next)
  refine ⟨serials.nodup_iff.mpr (List.nodup_cons.mpr ⟨fresh, distinct⟩), fun i hi => ?_⟩
  have after (j : Nat) (hj : n.nextSerial = some j) : j = k + 1 := by
    rw [next', serialAfter] at hj
    split at hj <;> cases hj
    rfl
  rcases List.mem_cons.mp (serials.mem_iff.mp hi) with rfl | hi
  · exact ⟨range.1, range.2, fun j hj => by rw [after j hj]; exact Nat.lt_succ_self _⟩
  · obtain ⟨low, high, less⟩ := below i hi
    exact ⟨low, high, fun j hj => by rw [after j hj]; exact Nat.lt_succ_of_lt (less k next)⟩

section Charge

variable {s : State} {q : Record}

/-- An accepted charge is one open record and one ticket, under the next serial (R59, R124). -/
theorem Filed.acceptCharge (h : Filed s) (less : s.image.recordCount < 1024) (next : s.image.nextSerial = some q.serial)
    (range : 1 ≤ q.serial ∧ q.serial ≤ 4294967295) (potLife : Nat) : Filed (s.acceptCharge q potLife) := by
  refine ⟨fun p => ?_, serialsSound_added ?_ next rfl range h.sound, h.stored, ?_⟩
  · have listed : (s.acceptCharge q potLife).image.serialsOf p =
        s.image.serialsOf p ++ if q.press = p then [q.serial] else [] := by
      have table : (s.acceptCharge q potLife).image.openTable = s.image.openTable ++ [⟨q, false, false⟩] := rfl
      rw [Image.serialsOf, table, List.filter_append, List.map_append, ← Image.serialsOf]
      by_cases hp : q.press = p <;> simp [hp]
    rw [listed]
    by_cases hp : p = q.press
    · subst hp
      have ticketed :
          ((s.acceptCharge q potLife).press q.press).serials.Perm ((s.press q.press).serials ++ [q.serial]) := by
        change (Press.serials ((State.modPress ..).press q.press)).Perm _
        rw [State.press_modPress, Press.serials, Press.serials, List.map_append, List.append_assoc, List.append_assoc]
        exact List.perm_append_comm.append_left _
      rw [if_pos rfl]
      exact ticketed.trans ((h.owned _).append_right _)
    · have other : (s.acceptCharge q potLife).press p = s.press p := State.press_modPress_other _ hp _
      rw [if_neg (Ne.symm hp), other, List.append_nil]
      exact h.owned p
  · have serials : (s.acceptCharge q potLife).image.serials =
        (s.image.openTable.map fun o => o.record.serial) ++ q.serial :: s.image.ring.uncollected.map Record.serial := by
      change ((s.image.openTable ++ [_]).map _) ++ _ = _
      rw [List.map_append, List.append_assoc]
      rfl
    rw [serials]
    exact List.perm_middle
  · change (s.image.openTable ++ [_]).length + s.image.ring.count ≤ 1024
    rw [List.length_append, List.length_singleton]
    rw [Image.recordCount] at less
    omega

/-- A rejected charge is one record more in the ring, under the next serial (R60, R125). -/
theorem Filed.rejectCharge (h : Filed s) (less : s.image.recordCount < 1024) (next : s.image.nextSerial = some q.serial)
    (range : 1 ≤ q.serial ∧ q.serial ≤ 4294967295) (nominal : Nat) : Filed (s.rejectCharge q nominal) := by
  refine ⟨h.owned, serialsSound_added ?_ next rfl range h.sound, h.stored, less⟩
  have free : s.image.ring.count < 1024 := Nat.lt_of_le_of_lt (Nat.le_add_left ..) less
  have serials : (s.rejectCharge q nominal).image.serials = s.image.serials ++ [q.serial] := by
    unfold State.rejectCharge
    change _ ++ (Ring.uncollected (Ring.append ..)).map _ = _
    rw [Ring.uncollected_append free, List.map_append, ← List.append_assoc]
    rfl
  rw [serials]
  exact List.perm_append_singleton ..

end Charge

namespace Files

theorem modStation (s : State) (f : Station → Station) : Files s (s.modStation f) := of_filing rfl

/-- A capture has a place in the room and the next serial for its record (R53, R123). -/
theorem capture {s : State} (room : s.roomSound) : Files s s.capture := by
  cases found : s.captureFigures with
  | none => rw [State.capture, found]; exact refl s
  | some figures =>
    obtain ⟨o, slot, r, serial, w⟩ := figures
    obtain ⟨current, -, -, next, -⟩ := (captureFigures_iff ..).mp found
    obtain ⟨⟨-, -, range⟩, -, free⟩ := room
    obtain ⟨less, -⟩ := free (by rw [current]; rfl)
    have judged (q : Record) (hq : q.serial = serial) : Files s (s.judgeCharge q r) := by
      refine ⟨by rw [judgeCharge_eq], fun h => ?_⟩
      rw [← hq] at next
      unfold State.judgeCharge
      split
      · exact h.acceptCharge less next (range _ next) _
      · exact h.rejectCharge less next (range _ next) _
    have obliged (t : State) : Files t t.zeroObligation := by
      rw [zeroObligation_eq]
      exact of_filing rfl
    have weighed := judged (newRecord serial o slot r w s.clock.stamp) rfl
    rw [State.capture, found]
    exact ((weighed.trans (modStation _ _)).trans (obliged _)).historyTest

/-! ### Samples and orders (R43 to R65) -/

theorem zeroCapture (s : State) : Files s s.zeroCapture := (modStation s _).raise _ _

theorem autoZero (s : State) (range : Nat) : Files s (s.autoZero range) := by
  unfold State.autoZero
  split
  · exact zeroCapture s
  · exact refl s

theorem takeCheck (s : State) : Files s s.takeCheck := by
  rcases takeCheck_cases s with e | ⟨o, e, -⟩
  · rw [e]; exact refl s
  · rw [e]; exact modStation s _

theorem onSample {s : State} (room : s.roomSound) : Files s s.onSample := by
  unfold State.onSample
  split
  case h_1 => exact autoZero s _
  case h_2 =>
    refine Files.trans ?_ (takeCheck _)
    split
    · exact autoZero s _
    · exact refl s
  case h_3 =>
    split
    · exact modStation s _
    · exact refl s
  case h_4 =>
    split
    · exact modStation s _
    · split
      · exact capture room
      · exact refl s
  case h_5 =>
    split
    · exact modStation s _
    · exact refl s
  case h_6 => exact refl s

theorem goodSample {s : State} (room : s.roomSound) (count : Count) : Files s (s.windowed count).onSample :=
  (modStation s _).trans (onSample ((keeps_windowed s count).room room))

theorem faultSample (s : State) : Files s s.faultSample := by
  unfold State.faultSample
  dsimp only
  split
  · exact modStation s _
  · exact (modStation s _).raise _ _

theorem settleExpires (s : State) : Files s s.settleExpires := by
  unfold State.settleExpires
  split
  · exact (modStation s _).raise _ _
  · exact refl s

/-! ### The ring (R135, R136) -/

theorem collectRecords {s : State} {n : Nat} (hn : n ≤ s.image.ring.count) : Files s (s.collectRecords n) := by
  have collected : Files s (s.writeImage fun m => { m with ring := m.ring.collect n }) := by
    refine ⟨rfl, fun h => ⟨h.owned, serialsSound_of_subperm (m := s.image) ?_ rfl h.sound, h.stored,
      (Nat.add_le_add_left (Nat.sub_le ..) _).trans h.room⟩⟩
    exact (((Ring.uncollected_collect _ hn).map _).append_left _).subperm
  exact collected.historyTest

theorem annotateRecord (s : State) (k : Nat) (pass : Bool) (inspector : Byte) :
    Files s (s.annotateRecord k pass inspector) := by
  have serials := serials_modRecord s.image.ring k (f := fun q => { q with annotation := some ⟨pass, inspector⟩ })
    fun _ => rfl
  exact ⟨rfl, fun h => h.of_same (fun _ => rfl) ⟨rfl, serials, rfl⟩ (fun _ hm => .inr hm)
    (Nat.add_le_add_left (Ring.count_modRecord ..).le _)⟩

/-! ### Settings, stores, counters (R147 to R150, R170, R180) -/

theorem startPeriodic (s : State) : Files s s.startPeriodic := of_filing rfl

theorem writeSetting (s : State) (ident : Nat) (v : Int) : Files s (s.writeSetting ident v) := by
  have written (f : Image → Settings) : Files s (s.writeImage fun m => { m with settings := f m }) := of_filing rfl
  unfold State.writeSetting State.settingActs
  split
  · exact (written _).trans (startPeriodic _)
  · split
    · exact (written _).historyTest
    · exact written _

theorem snapshot (s : State) (target : Option (Fin 4)) (cleared : Bool) : Files s (s.snapshot target cleared) := by
  have copied : Files s (s.copyCounters target cleared) := of_filing rfl
  have zeroed (t : State) : Files t (t.clearCounters target) := of_filing rfl
  unfold State.snapshot
  dsimp only
  split
  · exact copied.trans (zeroed _)
  · exact copied

/-- Retained Memory changed, with no image but those it held and the working one. -/
theorem modRetained {s : State} {f : Retained → Retained}
    (h : ∀ m ∈ (f s.retained).images, m = s.image ∨ m ∈ s.retained.images) : Files s (s.modRetained f) :=
  ⟨rfl, fun hs => hs.of_same (fun _ => rfl) (.refl _) h (Nat.le_refl _)⟩

theorem startStore (s : State) : Files s s.startStore := by
  refine modRetained fun m hm => ?_
  rcases mem_images.mp hm with copy | ⟨f, hf, rfl⟩
  · exact .inr (mem_images.mpr (.inl copy))
  · cases hf; exact .inl rfl

theorem finishStore {s : State} {f : InFlight} (h : s.retained.store = some f) : Files s (s.finishStore f) := by
  refine (modRetained fun m hm => .inr (mem_images.mpr (.inr ⟨f, h, ?_⟩))).raise _ _
  rcases mem_images.mp hm with ⟨g, hg⟩ | ⟨g, hg, -⟩
  · cases hg; rfl
  · cases hg

theorem storeOnceMore (s : State) : Files s s.storeOnceMore := by
  unfold State.storeOnceMore
  split
  · exact (modRetained fun _ hm => .inr hm).trans (startStore _)
  · exact refl s

theorem periodicExpires (s : State) : Files s s.periodicExpires := by
  unfold State.periodicExpires
  dsimp only
  split
  · split
    · exact (startPeriodic s).trans (startStore _)
    · exact startPeriodic s
  · exact refl s

theorem setMode (s : State) (p : Fin 4) (m : HeatMode) (standby : Int) (held : Tab Bool 6) :
    Files s (s.setMode p m standby held) := by
  rw [setMode_eq]
  exact of_filing rfl

end Files

end Sys2Proof.Machine.PartRecords

/-!
PROOF. Every step keeps one open record for each part (O56): the owners of the requests, the resets, recalls and power
falls, and every command.
-/

namespace Sys2Proof.Machine.PartRecords

open ChargeWeighing PressCycle

/-! ## The owners of the requests -/

section Owners

variable (s : State)

theorem files_ownMaskEvents (mode : Byte) (kinds : List Byte) : Files s (ownMaskEvents mode kinds s) := by
  unfold ownMaskEvents
  split
  · exact ((Files.refl s).modLink _).answer _ _
  all_goals exact .answered ..

theorem files_ownGetSetting (ident : Byte) : Files s (ownGetSetting ident s) := by
  unfold ownGetSetting
  split <;> exact .answered ..

theorem files_ownSetSetting (ident : Byte) (value : Word) : Files s (ownSetSetting ident value s) := by
  unfold ownSetSetting
  split
  · exact .answered ..
  · split
    · exact .answered ..
    · exact (Files.writeSetting s _ _).answer _ _

theorem files_ownSetTuning (zone kp ki : Byte) : Files s (ownSetTuning zone kp ki s) := by
  unfold ownSetTuning
  split
  · exact .answered ..
  · exact .answer (.of_filing (by rfl)) _ _

theorem files_ownWriteRecipe (slot : Byte) (r : RawRecipe) : Files s (ownWriteRecipe slot r s) := by
  unfold ownWriteRecipe
  split
  · exact .answered ..
  · repeat' split
    · exact .answered ..
    · exact .answered ..
    · exact .answered ..
    · exact .answer (.of_filing (by rfl)) _ _

theorem files_ownReadRecipe (slot : Byte) : Files s (ownReadRecipe slot s) := by
  unfold ownReadRecipe
  split
  · exact .answered ..
  · split <;> exact .answered ..

theorem files_ownAssignRecipe (press slot : Byte) : Files s (ownAssignRecipe press slot s) := by
  unfold ownAssignRecipe
  split
  · repeat' split
    · exact .answered ..
    · exact .answered ..
    · exact .answer (.of_filing (by rfl)) _ _
  · exact .answered ..
  · exact .answered ..

theorem files_ownSetHeatMode (press mode : Byte) (standby : Half) (held : Byte) :
    Files s (ownSetHeatMode press mode standby held s) := by
  unfold ownSetHeatMode
  split
  · split
    · exact .answered ..
    · exact (Files.setMode ..).answer _ _
  · exact .answered ..
  · exact .answered ..

theorem files_ownReadZones (press : Byte) : Files s (ownReadZones press s) := by
  unfold ownReadZones
  split <;> exact .answered ..

theorem files_ownClearZone (zone : Byte) : Files s (ownClearZone zone s) := by
  unfold ownClearZone
  split
  · exact .answered ..
  · split
    · exact .answer (.of_filing (by rfl)) _ _
    · exact .answered ..

theorem files_ownDisableZone (zone : Byte) : Files s (ownDisableZone zone s) := by
  unfold ownDisableZone
  split
  · exact .answered ..
  · exact .answer (.of_filing (by rfl)) _ _

theorem files_ownEnableZone (zone : Byte) : Files s (ownEnableZone zone s) := by
  unfold ownEnableZone
  split
  · exact .answered ..
  · split
    · exact .answer (.of_filing (by rfl)) _ _
    · exact .answered ..

theorem files_ownPostOrder (orderTag press : Byte) : Files s (ownPostOrder orderTag press s) := by
  unfold ownPostOrder
  split
  · exact .answered ..
  · split
    · exact .answered ..
    · exact (Files.modStation s _).answer _ _

theorem files_ownCancelOrder (orderTag : Byte) : Files s (ownCancelOrder orderTag s) := by
  unfold ownCancelOrder
  split
  · exact (Files.modStation s _).answer _ _
  · split
    · exact (Files.modStation s _).answer _ _
    · split <;> exact .answered ..

theorem files_ownZeroScale : Files s (ownZeroScale s) := by
  unfold ownZeroScale
  split
  · exact .answered ..
  · exact (Files.zeroCapture s).answer _ _

/-- LOAD is taken by a press in IDLE, which has no part, for the ticket at the head of its queue (R77). -/
theorem files_ownLoad {s : State} (sound : s.pressesSound) (press : Byte) (serial : Word) :
    Files s (ownLoad press serial s) := by
  unfold ownLoad
  split
  · exact .answered ..
  · next p _ =>
    split
    · exact .answered ..
    · next h head =>
      obtain ⟨idle, -⟩ := idle_run_of_checkLoad h
      obtain ⟨each, -⟩ := sound
      obtain ⟨-, bound, -⟩ := each p
      have free : (s.press p).bound = none := by
        rw [idle] at bound
        simpa [PressState.holdsPart] using bound
      exact (Files.loadTicket head free).answer _ _
    · exact .answered ..

theorem files_ownClose (press : Byte) : Files s (ownClose press s) := by
  unfold ownClose
  split
  · exact .answered ..
  · split
    · exact .answered ..
    · exact ((Files.startClosing s).trans (.settled _)).answer _ _

theorem files_ownOpen (press : Byte) : Files s (ownOpen press s) := by
  unfold ownOpen
  split
  · exact .answered ..
  · split
    · exact .answered ..
    · split
      · exact .answered ..
      · exact ((Files.startToOpen s).trans (.settled _)).answer _ _

theorem files_ownAbort (press : Byte) : Files s (ownAbort press s) := by
  have moving (p : Fin 4) : Files s (((s.markAborted p).startToOpen p).settled p) :=
    ((Files.markAborted s).trans (.startToOpen _)).trans (.settled _)
  unfold ownAbort
  split
  · exact .answered ..
  · split
    · exact (Files.abortLoaded s).answer _ _
    · exact (moving _).answer _ _
    · exact (moving _).answer _ _
    all_goals exact .answered ..

theorem files_ownRelease (press : Byte) : Files s (ownRelease press s) := by
  unfold ownRelease
  split
  · exact .answered ..
  · split
    · exact (Files.releasePart s).answer _ _
    · exact .answered ..

theorem files_ownClearFault (press : Byte) : Files s (ownClearFault press s) := by
  unfold ownClearFault
  split
  · exact .answered ..
  · split
    · exact .answered ..
    · split
      · exact (Files.modPress s).answer _ _
      · exact .answered ..

theorem files_ownReadPress (press : Byte) : Files s (ownReadPress press s) := by
  unfold ownReadPress
  split <;> exact .answered ..

theorem files_ownReadHistory (start : Half) (count : Byte) : Files s (ownReadHistory start count s) := by
  unfold ownReadHistory
  split <;> exact .answered ..

theorem files_ownCollect (n : Half) : Files s (ownCollect n s) := by
  unfold ownCollect
  split
  · exact .answered ..
  · exact (Files.collectRecords (by omega)).answer _ _

theorem files_ownAnnotate (serial : Word) (result inspector : Byte) :
    Files s (ownAnnotate serial result inspector s) := by
  unfold ownAnnotate
  split
  · exact .answered ..
  · split
    · exact .answered ..
    · repeat' split
      · exact .answered ..
      · exact .answered ..
      · exact (Files.annotateRecord ..).answer _ _

theorem files_ownReadOpen (serial : Word) : Files s (ownReadOpen serial s) := by
  unfold ownReadOpen
  split <;> exact .answered ..

theorem files_ownStore : Files s (ownStore s) := by
  unfold ownStore
  split
  · exact (Files.modRetained fun _ hm => .inr hm).answer _ _
  · exact (Files.startStore s).answer _ _

theorem files_ownSnapshotCounters (press clear : Byte) : Files s (ownSnapshotCounters press clear s) := by
  unfold ownSnapshotCounters
  split
  · exact (Files.snapshot ..).answer _ _
  · exact .answered ..
  · exact .answered ..

theorem files_ownReadCounters (press : Byte) : Files s (ownReadCounters press s) := by
  unfold ownReadCounters
  split <;> exact .answered ..

end Owners

/-! ## What the invariant says beyond `Filed` (R138, R139, R156) -/

theorem filed_of_partsSound {s : State} (room : s.roomSound) (h : s.partsSound) : Filed s := by
  obtain ⟨⟨-, fits, -⟩, -⟩ := room
  obtain ⟨owned, sound, stored, -⟩ := h
  exact ⟨owned, sound, stored, fits⟩

/-- `Filed` reads the presses and the images only. -/
theorem Filed.of_frame {s t : State} (h : Filed s) (presses : t.presses = s.presses) (image : t.image = s.image)
    (images : t.retained.images = s.retained.images) : Filed t := by
  refine ⟨fun p => ?_, by rw [image]; exact h.sound, by rw [images]; exact h.stored, by rw [image]; exact h.room⟩
  rw [State.press, presses, image]
  exact h.owned p

theorem Filed.inPhase {s : State} (h : Filed s) (f : Phase) : Filed { s with phase := f } := h.of_frame rfl rfl rfl

theorem Filed.partsSound {s : State} (h : Filed s)
    (recalling : s.phase = .recalling ∨ s.phase = .waiting → s.image = Image.default)
    (held : s.phase = .held → s.image.openTable = []) : s.partsSound :=
  ⟨h.owned, h.sound, h.stored, recalling, held⟩

/-- In a part that works, is in power-fall handling or has stopped there is nothing more to say. -/
theorem Filed.partsSound_of_phase {s : State} (h : Filed s)
    (away : s.phase ≠ .recalling ∧ s.phase ≠ .waiting ∧ s.phase ≠ .held) : s.partsSound := by
  obtain ⟨recalling, waiting, held⟩ := away
  exact h.partsSound (fun e => (e.elim recalling waiting).elim) fun e => (held e).elim

/-- From `s` to `t` the part goes on in its phase with its records in step, and a part that does not work leaves its
image alone. -/
structure Follows (s t : State) : Prop where
  files : Files s t
  idle : s.phase ≠ .running → t.image = s.image

/-- What a command has to keep, of a state that meets the invariants. -/
def KeepsParts (s t : State) : Prop := s.pressesSound → s.roomSound → s.partsSound → t.partsSound

namespace Follows

variable {s t : State}

theorem refl (s : State) : Follows s s := ⟨.refl s, fun _ => rfl⟩

theorem blind (s : State) : BlindToLink (Follows s) := fun _ l g h => ⟨Files.blind s _ l g h.files, h.idle⟩

theorem of_running (hr : s.phase = .running) (h : Files s t) : Follows s t := ⟨h, fun hn => (hn hr).elim⟩

theorem trans {u : State} (h : Follows s t) (k : Follows t u) : Follows s u :=
  ⟨h.files.trans k.files, fun hn => (k.idle (by rw [h.files.phase]; exact hn)).trans (h.idle hn)⟩

theorem keepsParts (h : Follows s t) : KeepsParts s t := by
  intro _ room parts
  obtain ⟨-, -, -, recalling, held⟩ := id parts
  refine (h.files.filed (filed_of_partsSound room parts)).partsSound (fun e => ?_) fun e => ?_
  · rw [h.files.phase] at e
    rw [h.idle (by rintro hr; simp [hr] at e)]
    exact recalling e
  · rw [h.files.phase] at e
    rw [h.idle (by simp [e])]
    exact held e

theorem serve {own : State → State} (hown : ∀ u, Files u (own u)) (s : State) (kind tag : Byte) (body : List Byte) :
    Follows s (s.serve kind tag body own) :=
  (blind s).serve (fun u hr h => h.trans (of_running hr (hown u))) (refl s) kind tag body

theorem plantEvent {act : State → State} (hact : ∀ u, Files u (act u)) (s : State) : Follows s (plantEvent s act) :=
  (blind s).plantEvent (fun u hr h => h.trans (of_running hr (hact u))) (refl s)

theorem lineEvent {act : State → State} (hact : ∀ u, Follows u (act u)) (s : State) : Follows s (lineEvent s act) :=
  (blind s).lineEvent (fun u h => h.trans (hact u)) (refl s)

theorem hear (s : State) (bytes : List Byte) : Follows s (s.hear bytes) := (blind s).hear (refl s) bytes

theorem abandonFrame (h : Follows s t) : Follows s t.abandonFrame := by
  rw [State.abandonFrame_eq]
  exact (blind s).link h _

theorem pump (h : Follows s t) : Follows s t.pump := (blind s).pump h

end Follows

/-! ## The power-on reset and the recall (R153 to R156) -/

theorem default_room : Image.default.recordCount ≤ 1024 := by decide

theorem serials_of_reset {s : State} (h : s.presses = Tab.fill Press.reset) (p : Fin 4) : (s.press p).serials = [] := by
  rw [State.press, h, Tab.get_fill]
  rfl

theorem serials_derived {x : Press} (h : Derived x) : x.serials = [] := by
  rcases h with rfl | rfl <;> rfl

/-- With the power-on values there is nothing to keep in step but the copy. -/
theorem partsSound_powerOnValues {s : State} (stored : ∀ m ∈ s.retained.images, m.serialsSound) (phase : Phase)
    (rate : Nat) : (s.powerOnValues phase rate).partsSound := by
  refine Filed.partsSound (.of_empty (serials_of_reset rfl) rfl serialsSound_default (fun m hm => stored m ?_)
    default_room) (fun _ => rfl) fun _ => rfl
  rcases mem_images.mp hm with copy | ⟨f, hf, -⟩
  · exact mem_images.mpr (.inl copy)
  · cases hf

/-- The recall begins over an image that holds its defaults. -/
theorem partsSound_beginRecall {s : State} (h : s.partsSound) (default : s.image = Image.default) :
    s.beginRecall.partsSound := by
  obtain ⟨owned, sound, stored, -⟩ := h
  unfold State.beginRecall
  rw [HeaterPower.countFreeRead_eq]
  exact ⟨owned, sound, stored, fun _ => default, fun e => by cases e⟩

theorem partsSound_powerOn {s : State} (stored : ∀ m ∈ s.retained.images, m.serialsSound) :
    s.powerOn.partsSound := by
  have values := partsSound_powerOnValues stored .waiting s.recallRate
  unfold State.powerOn
  dsimp only
  split
  · exact values
  · exact partsSound_beginRecall values rfl

theorem keepsParts_powerOnReset (s : State) (pfail : Bool) : KeepsParts s (s.powerOnReset pfail) := by
  intro _ room parts
  have filed := filed_of_partsSound room parts
  obtain ⟨-, -, stored, recalling, -⟩ := id parts
  have off (m : Image) (hm : m ∈ s.retained.withoutSupply.images) : m.serialsSound :=
    stored m (withoutSupply_images _ m hm)
  unfold State.powerOnReset
  dsimp only
  split
  · split
    · exact partsSound_powerOn off
    · exact Filed.partsSound_of_phase (filed.of_frame rfl rfl rfl) (by simp)
  · next waiting =>
    split
    · exact partsSound_powerOn stored
    · exact partsSound_beginRecall parts (recalling (.inr waiting))
  · exact partsSound_powerOn stored
  · exact partsSound_powerOn stored
  all_goals exact partsSound_powerOn off

/-- A reset completes with every press empty, over an image with no open record (R99). -/
theorem filed_completeReset {s : State} (table : s.image.openTable = []) (sound : s.image.serialsSound)
    (stored : ∀ m ∈ s.retained.images, m.serialsSound) (room : s.image.recordCount ≤ 1024) :
    Filed s.completeReset := by
  obtain ⟨derived, -, -, image, images⟩ := completeReset_facts s
  exact .of_empty (fun p => serials_derived (derived p)) (by rw [image]; exact table) (by rw [image]; exact sound)
    (by rw [images]; exact stored) (by rw [image]; exact room)

theorem files_raiseStarted (s : State) : Files s s.raiseStarted := by
  unfold State.raiseStarted
  split
  · exact ((Files.refl s).raise _ _).raise _ _
  · exact (Files.refl s).raise _ _

/-- A part that has just begun to work, with its records in step. -/
theorem partsSound_started {s t : State} (h : Filed s) (started : Files { s with phase := .running } t) :
    t.partsSound :=
  (started.filed (h.inPhase .running)).partsSound_of_phase (by rw [started.phase]; simp)

/-- Every open record closed leaves no open record, and sound serials. -/
theorem closeAll_facts {s : State} (sound : s.image.serialsSound) (room : s.image.recordCount ≤ 1024)
    (d : Disposition) :
    (s.closeAll d).image.openTable = [] ∧ (s.closeAll d).image.serialsSound ∧
      (s.closeAll d).image.recordCount ≤ 1024 ∧ (s.closeAll d).retained.images = s.retained.images := by
  have records := RecordOnly.closeAll s d
  exact ⟨openTable_closeAll .., serialsSound_closeAll sound room d, records.image.count.trans room,
    by rw [records.eq]; rfl⟩

theorem keepsParts_completeRecall (s : State) : KeepsParts s s.completeRecall.pump := by
  intro _ room parts
  obtain ⟨-, -, stored, -⟩ := parts
  obtain ⟨-, rooms, -⟩ := room
  have recalled : s.recalled.image.serialsSound ∧ s.recalled.image.recordCount ≤ 1024 ∧
      s.recalled.retained.images = s.retained.images := by
    unfold State.recalled
    split
    · next m g hg =>
      have copy : m ∈ s.retained.images := mem_images.mpr (.inl ⟨g, hg⟩)
      obtain ⟨-, fits, -⟩ := rooms m copy
      exact ⟨stored m copy, fits, rfl⟩
    · exact ⟨serialsSound_default, default_room, rfl⟩
  obtain ⟨sound, fits, images⟩ := recalled
  obtain ⟨table, sound, fits, images'⟩ := closeAll_facts sound fits .scrapPower
  unfold State.completeRecall
  generalize s.recalled.closeAll .scrapPower = u at table sound fits images'
  have completed : Filed u.restartStation.completeReset :=
    filed_completeReset table sound (fun m hm => stored m (by rw [← images, ← images']; exact hm)) fits
  exact partsSound_started completed ((Files.blind _).pump (files_raiseStarted _))

/-! ## The warm reset (R138, R157) -/

theorem files_cutAllShort (s : State) : Files s s.cutAllShort := .foldl (fun t p => .cutShort (p := p) t) _ s

/-- A warm reset begins with every record closed and every press empty. -/
theorem beginWarm_facts {s : State} (h : Filed s) :
    Filed s.beginWarm ∧ s.beginWarm.image.openTable = [] ∧ s.beginWarm.phase = .held := by
  have cut := (files_cutAllShort s).filed h
  obtain ⟨table, sound, fits, images⟩ := closeAll_facts cut.sound cut.room .scrapReset
  unfold State.beginWarm
  generalize s.cutAllShort.closeAll .scrapReset = u at table sound fits images
  exact ⟨.of_empty (serials_of_reset rfl) table sound (fun m hm => cut.stored m (images ▸ hm)) fits, table, rfl⟩

theorem partsSound_completeWarm {s : State} (h : Filed s) (table : s.image.openTable = []) :
    s.completeWarm.pump.partsSound :=
  partsSound_started (filed_completeReset table h.sound h.stored h.room) ((Files.blind _).pump (.refl _))

/-! ## The power fall (R151 to R153) -/

theorem partsSound_stop {s : State} (h : Filed s) (fallen : Bool) : (s.stop fallen).partsSound := by
  unfold State.stop
  dsimp only
  split
  · exact partsSound_powerOn h.stored
  · exact (h.inPhase .stopped).partsSound_of_phase (by simp)

theorem partsSound_powerFallOn {s : State} (h : Filed s) (final fallen : Bool) :
    (s.powerFallOn final fallen).partsSound := by
  unfold State.powerFallOn
  split
  · have storing := Files.startStore { s with phase := .powerFall true fallen }
    exact (storing.filed (h.inPhase _)).partsSound_of_phase (by rw [storing.phase]; simp)
  · exact partsSound_stop h fallen

theorem partsSound_beginPowerFall {s : State} (h : Filed s) : s.beginPowerFall.partsSound := by
  have dark : Filed s.outputsOff := by
    refine h.of_same (fun p => ?_) (.refl _) (fun _ hm => .inr hm) (Nat.le_refl _)
    change ((s.presses.mapWith fun _ (x : Press) => { x with valves := Valves.off }).get p).serials = _
    rw [Tab.get_mapWith]
    rfl
  have cut := (files_cutAllShort _).filed dark
  unfold State.beginPowerFall
  generalize s.outputsOff.cutAllShort = u at cut
  dsimp only
  have falling : Filed
      ({ u with phase := .powerFall false false, link := s.link.powerFall }.modRetained fun r =>
        { r with periodic := none, storeAgain := false }) := cut.of_frame rfl rfl rfl
  split
  · exact falling.partsSound_of_phase (by simp)
  · exact partsSound_powerFallOn falling _ _

/-- An abandoned recall leaves the part stopped, over the image it had (R153; log entry 22). -/
theorem keepsParts_pfailRises (s : State) : KeepsParts s s.pfailRises := by
  intro _ room parts
  have filed := filed_of_partsSound room parts
  have level : Filed { s with pfail := true } := filed.of_frame rfl rfl rfl
  obtain ⟨-, -, -, recalling, -⟩ := id parts
  unfold State.pfailRises
  dsimp only
  split
  · exact partsSound_beginPowerFall level
  · exact partsSound_beginPowerFall level
  · next hp =>
    have abandoned : Filed { s with pfail := true }.abandonRecall :=
      filed.of_frame rfl (recalling (.inl hp)).symm rfl
    exact abandoned.partsSound_of_phase (by simp [State.abandonRecall])
  all_goals exact parts

theorem keepsParts_storeCompletes {s : State} {f : InFlight} (h : s.retained.store = some f) :
    KeepsParts s (s.storeCompletes f) := by
  have finished := Files.finishStore h
  have image : (s.finishStore f).storeOnceMore.image = s.image := by
    unfold State.storeOnceMore
    split <;> rfl
  have again : Follows s (s.finishStore f).storeOnceMore := ⟨finished.trans (.storeOnceMore _), fun _ => image⟩
  unfold State.storeCompletes
  dsimp only
  split
  · exact fun _ room parts => partsSound_powerFallOn (finished.filed (filed_of_partsSound room parts)) _ _
  · exact again.pump.keepsParts
  · exact again.pump.keepsParts
  all_goals exact again.keepsParts

/-! ## The other events -/

theorem follows_inputEvent (p : Fin 4) (levels : PressInputs) (guardRise : Bool) (s : State) :
    Follows s (inputEvent p levels guardRise s) := by
  unfold inputEvent
  dsimp only
  split
  · have heard : Follows s
        { s with lines := s.lines.at p levels guardRise, inputs := s.inputs.at p levels guardRise } :=
      ⟨.of_filing rfl, fun _ => rfl⟩
    exact heard.trans (.plantEvent (fun u => .settled (p := p) u) _)
  · exact ⟨.of_filing rfl, fun _ => rfl⟩

theorem files_later (s : State) : Files s s.later := by
  unfold State.later
  split
  · refine ⟨rfl, fun h => h.of_same (fun p => ?_) (.refl _) (fun _ hm => .inr hm) (Nat.le_refl _)⟩
    change ((s.presses.mapWith fun _ (x : Press) => x.later).get p).serials = _
    rw [Tab.get_mapWith]
    exact Files.serials_congr (List.map_map ..) (Option.map_map ..)
  · exact .refl s

theorem follows_later (s : State) : Follows s s.later := by
  refine ⟨files_later s, fun hn => ?_⟩
  rw [State.later, if_neg hn]

/-! ## Every command and every step -/

/-- The state a command answers. -/
theorem keepsParts_of_next {s t u : State} (e : (.next u : Host.Outcome State Fault Refusal) = .next t)
    (h : KeepsParts s u) : KeepsParts s t := Host.Outcome.next.inj e ▸ h

theorem follows_of_next {s t u : State} (e : (.next u : Host.Outcome State Fault Refusal) = .next t)
    (h : Follows s u) : KeepsParts s t := keepsParts_of_next e h.keepsParts

/-- A request whose owner keeps the presses and their records in step. -/
theorem keepsParts_request {own : State → State} (hown : ∀ u, Files u (own u)) {s t : State} {kind tag : Byte}
    {body : List Byte} (e : (.next (s.serve kind tag body own) : Host.Outcome State Fault Refusal) = .next t) :
    KeepsParts s t := follows_of_next e (.serve hown ..)

/-- LOAD relies on what the invariant says of a press in IDLE (R70, R77). -/
theorem keepsParts_load {tag press : Byte} {serial : Word} {s t : State}
    (e : exec (.load tag press serial) s = .next t) : KeepsParts s t := by
  intro presses room parts
  obtain rfl := Host.Outcome.next.inj e
  have blind : BlindToLink fun u => u.pressesSound ∧ Follows s u := fun u l g ⟨sound, follows⟩ =>
    ⟨sound, Follows.blind s u l g follows⟩
  have loaded (u : State) (hr : u.phase = .running) (h : u.pressesSound ∧ Follows s u) :
      (ownLoad press serial u).pressesSound ∧ Follows s (ownLoad press serial u) := by
    obtain ⟨sound, follows⟩ := h
    exact ⟨(keeps_ownLoad press serial hr).presses sound,
      follows.trans (.of_running hr (files_ownLoad sound press serial))⟩
  obtain ⟨-, served⟩ := blind.serve loaded ⟨presses, .refl s⟩ 0x28 tag (press :: wordBytes serial)
  exact served.keepsParts presses room parts

/-- A good sample relies on the room that the current order's capture has (R53). -/
theorem keepsParts_goodSample {count : Count} {s t : State} (e : exec (.goodSample count) s = .next t) :
    KeepsParts s t := by
  intro presses room parts
  obtain rfl := Host.Outcome.next.inj e
  have blind : BlindToLink fun u => u.roomSound ∧ Follows s u := fun u l g ⟨sound, follows⟩ =>
    ⟨sound, Follows.blind s u l g follows⟩
  have taken (u : State) (hr : u.phase = .running) (h : u.roomSound ∧ Follows s u) :
      (u.windowed count).onSample.roomSound ∧ Follows s (u.windowed count).onSample := by
    obtain ⟨sound, follows⟩ := h
    exact ⟨((keeps_windowed u count).trans (keeps_onSample _)).room sound,
      follows.trans (.of_running hr (.goodSample sound count))⟩
  obtain ⟨-, sampled⟩ := blind.plantEvent taken ⟨room, .refl s⟩
  exact sampled.keepsParts presses room parts

theorem keepsParts_transmitComplete {s t : State} (e : exec .transmitComplete s = .next t) : KeepsParts s t := by
  have sent : Follows s (s.modLink Link.sent) := (Follows.blind s).link (.refl s) _
  obtain rfl := Host.Outcome.next.inj e
  split
  · intro _ room parts
    obtain ⟨filed, table, -⟩ := beginWarm_facts (sent.files.filed (filed_of_partsSound room parts))
    exact partsSound_completeWarm filed table
  · exact sent.pump.keepsParts

theorem keepsParts_thermocoupleReading {z : Fin 24} {x : Reading} {s t : State}
    (e : exec (.thermocoupleReading z x) s = .next t) : KeepsParts s t := by
  have read : Follows s (s.takeReading z x) := by
    refine ⟨.takeReading s z x, fun _ => ?_⟩
    unfold State.takeReading State.raiseZoneFault
    dsimp only
    split <;> rfl
  obtain rfl := Host.Outcome.next.inj e
  split
  · exact read.pump.keepsParts
  · exact (Follows.refl s).keepsParts

theorem keepsParts_heaterSlot {s t : State} (e : exec .heaterSlot s = .next t) : KeepsParts s t := by
  obtain rfl := Host.Outcome.next.inj e
  split
  · exact Follows.keepsParts ⟨.of_filing rfl, fun _ => rfl⟩
  · exact (Follows.refl s).keepsParts

theorem keepsParts_guardOkFall {s t : State} (e : exec .guardOkFall s = .next t) : KeepsParts s t := by
  have low : Follows s { s with lines := { s.lines with guardOk := false } } := ⟨.of_filing rfl, fun _ => rfl⟩
  obtain rfl := Host.Outcome.next.inj e
  split
  · next hr => exact (low.trans (.of_running hr (.guardFalls _))).pump.keepsParts
  · exact low.keepsParts

theorem keepsParts_storeComplete {s t : State} (e : exec .storeComplete s = .next t) : KeepsParts s t := by
  obtain rfl := Host.Outcome.next.inj e
  split
  · next h => exact keepsParts_storeCompletes h
  · exact (Follows.refl s).keepsParts

theorem keepsParts_recallComplete {s t : State} (e : exec .recallComplete s = .next t) : KeepsParts s t := by
  obtain rfl := Host.Outcome.next.inj e
  split
  · exact keepsParts_completeRecall s
  · exact (Follows.refl s).keepsParts

theorem keepsParts_resetLineLow {s t : State} (e : exec .resetLineLow s = .next t) : KeepsParts s t := by
  obtain rfl := Host.Outcome.next.inj e
  split
  · intro _ room parts
    obtain ⟨filed, table, held⟩ := beginWarm_facts (filed_of_partsSound room parts)
    exact filed.partsSound (by simp [held]) fun _ => table
  · exact (Follows.refl s).keepsParts

theorem keepsParts_resetLineHigh {s t : State} (e : exec .resetLineHigh s = .next t) : KeepsParts s t := by
  obtain rfl := Host.Outcome.next.inj e
  split
  · next held =>
    intro _ room parts
    obtain ⟨-, -, -, -, table⟩ := id parts
    exact partsSound_completeWarm (filed_of_partsSound room parts) (table held)
  · exact (Follows.refl s).keepsParts

theorem keepsParts_clockTick {s t : State} (e : exec .clockTick s = .next t) : KeepsParts s t := by
  obtain rfl := Host.Outcome.next.inj e
  split
  · exact Follows.keepsParts ⟨.of_filing rfl, fun _ => rfl⟩
  · exact (Follows.refl s).keepsParts

theorem keepsParts_supplyLost {s t : State} (e : exec .supplyLost s = .next t) : KeepsParts s t := by
  obtain rfl := Host.Outcome.next.inj e
  intro _ _ parts
  obtain ⟨-, -, stored, -⟩ := parts
  exact partsSound_powerOnValues (fun m hm => stored m (withoutSupply_images _ m hm)) _ _

theorem keepsParts_exec (c : Instr) {s t : State} (e : exec c s = .next t) : KeepsParts s t :=
  match c with
  | .identify _ => keepsParts_request (own := ownIdentify) (fun u => .answered u _ _) e
  | .cellStatus _ => keepsParts_request (own := ownCellStatus) (fun u => .answered u _ _) e
  | .restart _ => keepsParts_request (own := ownRestart) (fun u => (Files.answered u _ _).modLink _) e
  | .setClock _ seconds =>
    keepsParts_request (own := ownSetClock seconds) (fun u => .answer (s := u) (.of_filing (by rfl)) _ _) e
  | .readClock _ => keepsParts_request (own := ownReadClock) (fun u => .answered u _ _) e
  | .readEvents _ => keepsParts_request (own := ownReadEvents) (fun u => ((Files.refl u).modLink _).answer _ _) e
  | .maskEvents _ mode kinds => keepsParts_request (fun u => files_ownMaskEvents u mode kinds) e
  | .getSetting _ ident => keepsParts_request (fun u => files_ownGetSetting u ident) e
  | .setSetting _ ident value => keepsParts_request (fun u => files_ownSetSetting u ident value) e
  | .setTuning _ zone kp ki => keepsParts_request (fun u => files_ownSetTuning u zone kp ki) e
  | .writeRecipe _ slot recipe => keepsParts_request (fun u => files_ownWriteRecipe u slot recipe) e
  | .readRecipe _ slot => keepsParts_request (fun u => files_ownReadRecipe u slot) e
  | .assignRecipe _ press slot => keepsParts_request (fun u => files_ownAssignRecipe u press slot) e
  | .setHeatMode _ press mode standby held =>
    keepsParts_request (fun u => files_ownSetHeatMode u press mode standby held) e
  | .readZones _ press => keepsParts_request (fun u => files_ownReadZones u press) e
  | .clearZone _ zone => keepsParts_request (fun u => files_ownClearZone u zone) e
  | .disableZone _ zone => keepsParts_request (fun u => files_ownDisableZone u zone) e
  | .enableZone _ zone => keepsParts_request (fun u => files_ownEnableZone u zone) e
  | .postOrder _ orderTag press => keepsParts_request (fun u => files_ownPostOrder u orderTag press) e
  | .cancelOrder _ orderTag => keepsParts_request (fun u => files_ownCancelOrder u orderTag) e
  | .zeroScale _ => keepsParts_request files_ownZeroScale e
  | .readScale _ => keepsParts_request (own := ownReadScale) (fun u => .answered u _ _) e
  | .load _ _ _ => keepsParts_load e
  | .close _ press => keepsParts_request (fun u => files_ownClose u press) e
  | .openPress _ press => keepsParts_request (fun u => files_ownOpen u press) e
  | .abort _ press => keepsParts_request (fun u => files_ownAbort u press) e
  | .release _ press => keepsParts_request (fun u => files_ownRelease u press) e
  | .clearFault _ press => keepsParts_request (fun u => files_ownClearFault u press) e
  | .readPress _ press => keepsParts_request (fun u => files_ownReadPress u press) e
  | .readHistory _ start count => keepsParts_request (fun u => files_ownReadHistory u start count) e
  | .collect _ n => keepsParts_request (fun u => files_ownCollect u n) e
  | .annotate _ serial result inspector =>
    keepsParts_request (fun u => files_ownAnnotate u serial result inspector) e
  | .readOpen _ serial => keepsParts_request (fun u => files_ownReadOpen u serial) e
  | .store _ => keepsParts_request files_ownStore e
  | .snapshotCounters _ press clear => keepsParts_request (fun u => files_ownSnapshotCounters u press clear) e
  | .readCounters _ press => keepsParts_request (fun u => files_ownReadCounters u press) e
  | .goodFrame _ _ _ => follows_of_next e (.lineEvent (fun u => .hear u _) s)
  | .badCrcFrame _ _ _ _ => follows_of_next e (.lineEvent (fun u => .hear u _) s)
  | .overLengthFrame _ _ _ _ => follows_of_next e (.lineEvent (fun u => .hear u _) s)
  | .interbyteGapTimeout bytes =>
    follows_of_next e (.lineEvent (fun u => (Follows.blind u).link (Follows.hear u bytes).abandonFrame _) s)
  | .framingError bytes => follows_of_next e (.lineEvent (fun u => (Follows.hear u bytes).abandonFrame) s)
  | .transmitComplete => keepsParts_transmitComplete e
  | .thermocoupleReading _ _ => keepsParts_thermocoupleReading e
  | .heatFrameBoundary => follows_of_next e (.plantEvent .boundary s)
  | .heaterSlot => keepsParts_heaterSlot e
  | .goodSample _ => keepsParts_goodSample e
  | .faultedSample => follows_of_next e (.plantEvent .faultSample s)
  | .settleTimeout => follows_of_next e (.plantEvent .settleExpires s)
  | .ticketPotLifeExpiry press serial =>
    follows_of_next e (.plantEvent (fun u => .expireTicket (p := press) u serial.toNat) s)
  | .boundPotLifeExpiry press => follows_of_next e (.plantEvent (.expireBound (p := press)) s)
  | .curingConditionMet _ _ _ => follows_of_next e (follows_inputEvent ..)
  | .pressureDip _ _ _ _ => follows_of_next e (follows_inputEvent ..)
  | .guardOkFall => keepsParts_guardOkFall e
  | .openLimitMet _ _ _ => follows_of_next e (follows_inputEvent ..)
  | .ejectOutMet _ _ _ => follows_of_next e (follows_inputEvent ..)
  | .ejectHomeMet _ _ _ => follows_of_next e (follows_inputEvent ..)
  | .openLimitDrift _ _ _ => follows_of_next e (follows_inputEvent ..)
  | .keyChange _ => follows_of_next e ⟨.of_filing (by rfl), fun _ => rfl⟩
  | .closeTimerExpiry press => follows_of_next e (.plantEvent (.closeExpires (p := press)) s)
  | .openTimerExpiry press => follows_of_next e (.plantEvent (.openExpires (p := press)) s)
  | .strokeTimerExpiry press => follows_of_next e (.plantEvent (.strokeExpires (p := press)) s)
  | .minimumOpenExpiry press => follows_of_next e (.plantEvent (.minOpenElapses (p := press)) s)
  | .storeComplete => keepsParts_storeComplete e
  | .periodicStoreExpiry => follows_of_next e (.plantEvent .periodicExpires s)
  | .pfailRise => keepsParts_of_next e (keepsParts_pfailRises s)
  | .powerOnReset pfail => keepsParts_of_next e (keepsParts_powerOnReset s pfail)
  | .recallComplete => keepsParts_recallComplete e
  | .resetLineLow => keepsParts_resetLineLow e
  | .resetLineHigh => keepsParts_resetLineHigh e
  | .clockTick => keepsParts_clockTick e
  | .pressureDipEnd _ _ _ => follows_of_next e (follows_inputEvent ..)
  | .supplyLost => keepsParts_supplyLost e

/-- Settles O56: a step is a command on the rest of the queue, or a millisecond, which changes timers only. -/
theorem everyStepKeepsOneOpenRecordForEachPart : Obligations.EveryStepKeepsOneOpenRecordForEachPart := by
  unfold Obligations.EveryStepKeepsOneOpenRecordForEachPart
  intro s t presses room parts e
  unfold step at e
  split at e
  · exact follows_of_next e (follows_later s) presses room parts
  · next c rest _ => exact keepsParts_exec c (s := { s with pending := rest }) e presses room parts

end Sys2Proof.Machine.PartRecords

/-!
PROOF. The requests on part records: READ_HISTORY and READ_OPEN (O25), COLLECT and ANNOTATE (O26), and the closing
procedure (O27).
-/

namespace Sys2Proof.Machine.PartRecords

open ChargeWeighing PressCycle

/-! ## READ_HISTORY (R134) -/

/-- A list read index by index, at least as far as it goes. -/
theorem filterMap_getElem? {α : Type} (l : List α) {n : Nat} (h : l.length ≤ n) :
    (List.range n).filterMap (fun k => l[k]?) = l := by
  induction l generalizing n with
  | nil => simp
  | cons a l ih =>
    obtain ⟨m, rfl⟩ : ∃ m, n = m + 1 := ⟨n - 1, by rw [List.length_cons] at h; omega⟩
    rw [List.range_succ_eq_map, List.filterMap_cons, List.filterMap_map]
    exact congrArg (a :: ·) (ih (Nat.le_of_succ_le_succ h))

/-- The records asked for are those there are, at the indices asked for. -/
theorem records_eq {r : Ring} {start count : Nat} {rs : List Record}
    (length : rs.length = min count (r.count - start))
    (held : ∀ k, k < rs.length → rs[k]? = readPlace ((r.oldest + (start + k)) % 1024) r.places) :
    r.records start count = rs := by
  have read (k : Nat) (hk : k < count) : r.record (start + k) = rs[k]? := by
    by_cases there : k < rs.length
    · rw [held k there, Ring.record, if_pos (by omega), Ring.placeOf]
    · rw [Ring.record, if_neg (by omega), List.getElem?_eq_none (by omega)]
  calc r.records start count
      = (List.range count).filterMap fun k => rs[k]? :=
        List.filterMap_congr fun k hk => read k (List.mem_range.mp hk)
    _ = rs := filterMap_getElem? rs (by omega)

/-! ## READ_OPEN (R137) -/

/-- A part's ticket stands at the head of a queue. -/
theorem queuedFirst_iff (s : State) (n : Nat) :
    ((List.finRange 4).any fun p => decide (((s.press p).tickets.head?).map Ticket.serial = some n)) = true ↔
      ∃ p k rest, (s.press p).tickets = k :: rest ∧ k.serial = n := by
  simp only [List.any_eq_true, List.mem_finRange, true_and, decide_eq_true_eq, Option.map_eq_some_iff,
    List.head?_eq_some_iff]
  exact exists_congr fun p => ⟨fun ⟨k, ⟨rest, queue⟩, serial⟩ => ⟨k, rest, queue, serial⟩,
    fun ⟨k, rest, queue, serial⟩ => ⟨k, ⟨rest, queue⟩, serial⟩⟩

/-- A part's ticket stands second in a queue. -/
theorem queuedSecond_iff (s : State) (n : Nat) :
    ((List.finRange 4).any fun p => decide ((((s.press p).tickets.drop 1).head?).map Ticket.serial = some n)) = true ↔
      ∃ p j k rest, (s.press p).tickets = j :: k :: rest ∧ k.serial = n := by
  simp only [List.any_eq_true, List.mem_finRange, true_and, decide_eq_true_eq]
  refine exists_congr fun p => ?_
  rcases (s.press p).tickets with _ | ⟨j, _ | ⟨k, rest⟩⟩ <;> simp

/-- A part is bound to a press. -/
theorem bound_iff (s : State) (n : Nat) :
    ((List.finRange 4).any fun p => decide ((s.press p).bound.map Bound.serial = some n)) = true ↔
      ∃ p b, (s.press p).bound = some b ∧ b.serial = n := by
  simp only [List.any_eq_true, List.mem_finRange, true_and, decide_eq_true_eq, Option.map_eq_some_iff]

theorem placeOf_first {s : State} {n : Nat} (h : ∃ p k rest, (s.press p).tickets = k :: rest ∧ k.serial = n) :
    s.placeOf n = 1 := if_pos ((queuedFirst_iff s n).mpr h)

theorem placeOf_second {s : State} {n : Nat} (h : ∃ p j k rest, (s.press p).tickets = j :: k :: rest ∧ k.serial = n)
    (other : ∀ p j rest, (s.press p).tickets = j :: rest → j.serial ≠ n) : s.placeOf n = 2 := by
  have first : ¬ ∃ p k rest, (s.press p).tickets = k :: rest ∧ k.serial = n :=
    fun ⟨p, k, rest, queue, serial⟩ => other p k rest queue serial
  rw [State.placeOf, if_neg (mt (queuedFirst_iff s n).mp first), if_pos ((queuedSecond_iff s n).mpr h)]

theorem placeOf_bound {s : State} {n : Nat} (h : ∃ p b, (s.press p).bound = some b ∧ b.serial = n)
    (unqueued : ∀ p, ∀ k ∈ (s.press p).tickets, k.serial ≠ n) : s.placeOf n = 3 := by
  have first : ¬ ∃ p k rest, (s.press p).tickets = k :: rest ∧ k.serial = n :=
    fun ⟨p, k, rest, queue, serial⟩ => unqueued p k (by simp [queue]) serial
  have second : ¬ ∃ p j k rest, (s.press p).tickets = j :: k :: rest ∧ k.serial = n :=
    fun ⟨p, j, k, rest, queue, serial⟩ => unqueued p k (by simp [queue]) serial
  rw [State.placeOf, if_neg (mt (queuedFirst_iff s n).mp first), if_neg (mt (queuedSecond_iff s n).mp second),
    if_pos ((bound_iff s n).mpr h)]

/-- No open record bears the serial. -/
theorem openRecord_none {m : Image} {n : Nat} (h : ∀ o ∈ m.openTable, o.record.serial ≠ n) : m.openRecord n = none :=
  List.find?_eq_none.mpr fun o ho => by simpa using h o ho

/-- Settles O25: the refusals, the records read at their indices, and the place of a part. -/
theorem readHistoryAndReadOpenReplyRecords : Obligations.ReadHistoryAndReadOpenReplyRecords := by
  unfold Obligations.ReadHistoryAndReadOpenReplyRecords
  refine ⟨fun s tag start count h => ⟨fun bad => ?_, fun rs low high first length held => ?_⟩,
    fun s tag serial h => ⟨fun absent => ?_, fun o found =>
      ⟨BitVec.ofNat 8 (s.placeOf serial.toNat), fun head => ?_, fun second other => ?_, fun bound unqueued => ?_, ?_⟩⟩⟩
  · refine congrArg Host.Outcome.next (State.serve_answer h ?_)
    exact if_pos (by omega)
  · refine congrArg Host.Outcome.next (State.serve_answer h ?_)
    rw [ownReadHistory, if_neg (by omega), records_eq length held]
    rfl
  · refine congrArg Host.Outcome.next (State.serve_answer h ?_)
    rw [ownReadOpen, openRecord_none absent]
  · rw [placeOf_first head]; rfl
  · rw [placeOf_second second other]; rfl
  · rw [placeOf_bound bound unqueued]; rfl
  · refine congrArg Host.Outcome.next (State.serve_answer h ?_)
    have record : s.image.openRecord serial.toNat = some o := found
    rw [ownReadOpen, record]
    simp [beBool, be8]

/-! ## COLLECT (R133, R135) -/

/-- The HISTORY_HIGH test sets the mark as the records stand, and raises the event as the mark is newly set (R133). -/
theorem historyTest_marks (s : State) (high : Bool)
    (test : high = decide (s.image.settings.historyWarning ≤ s.image.recordCount)) :
    s.historyTest =
      if high = true ∧ s.historyRaised = false then { s with historyRaised := high }.raise .cell .historyHigh
      else { s with historyRaised := high } := by
  unfold State.historyTest
  by_cases reached : s.image.settings.historyWarning ≤ s.image.recordCount
  · rw [decide_eq_true reached] at test
    subst test
    rw [if_pos reached]
    cases raised : s.historyRaised with
    | true => simp [← raised]
    | false => simp
  · rw [decide_eq_false reached] at test
    subst test
    rw [if_neg reached, if_neg (by simp)]

/-! ## ANNOTATE (R136) -/

/-- The results of an annotation: 1 PASS and 2 FAIL. -/
theorem annotationResult_eq {b : Byte} (h : b = 1 ∨ b = 2) : annotationResult b = some (decide (b = 1)) := by
  rcases h with rfl | rfl <;> decide

theorem annotationResult_none {b : Byte} (h : b ≠ 1 ∧ b ≠ 2) : annotationResult b = none := by
  obtain ⟨pass, fail⟩ := h
  have noPass : b.toNat ≠ 1 := fun e => pass (BitVec.eq_of_toNat_eq e)
  have noFail : b.toNat ≠ 2 := fun e => fail (BitVec.eq_of_toNat_eq e)
  rw [annotationResult, if_neg noPass, if_neg noFail]

theorem indexOf_none {r : Ring} {n : Nat} (h : ∀ k q, r.record k = some q → q.serial ≠ n) : r.indexOf n = none := by
  refine List.find?_eq_none.mpr fun k _ => ?_
  split
  · next q hq => simpa using h k q hq
  · simp

/-- The first uncollected record with the serial. -/
theorem indexOf_some {r : Ring} {n k : Nat} {q : Record} (h : r.record k = some q) (serial : q.serial = n)
    (first : ∀ j x, j < k → r.record j = some x → x.serial ≠ n) : r.indexOf n = some k := by
  refine List.find?_range_eq_some.mpr ⟨?_, List.mem_range.mpr (record_lt h), fun j hj => ?_⟩
  · simp [h, serial]
  · split
    · next x hx => simpa using first j x hj hx
    · rfl

theorem annotated_iff {r : Ring} {k : Nat} {q : Record} (h : r.record k = some q) :
    r.annotated k = true ↔ q.annotation ≠ none := by
  rw [Ring.annotated, h]
  exact Option.isSome_iff_ne_none

/-- Settles O26: COLLECT by its HISTORY_HIGH test, and the checks of ANNOTATE in order. -/
theorem collectAndAnnotateChangeTheRing : Obligations.CollectAndAnnotateChangeTheRing := by
  unfold Obligations.CollectAndAnnotateChangeTheRing
  refine ⟨fun s tag n h => ⟨fun bad => ?_, fun low fits => ?_⟩, fun s tag serial result inspector => ?_⟩
  · refine congrArg Host.Outcome.next (State.serve_answer h ?_)
    exact if_pos bad
  · intro high t
    have tested : s.collectRecords n.toNat =
        if high = true ∧ s.historyRaised = false then t.raise .cell .historyHigh else t :=
      historyTest_marks _ high rfl
    have taken : ownCollect n s = (s.collectRecords n.toNat).answer .ok [] := if_neg (by omega)
    have phase : (s.collectRecords n.toNat).phase = s.phase := State.historyTest_phase ..
    have moved : (s.collectRecords n.toNat).retained.generation = nextGeneration s.retained.generation :=
      congrArg Retained.generation (State.historyTest_retained ..)
    have inHand : (s.collectRecords n.toNat).link.inHand = s.link.inHand := by
      rw [tested]
      split
      · exact raise_inHand ..
      · rfl
    rw [← tested]
    refine congrArg Host.Outcome.next ((State.serve_act h taken phase inHand).trans ?_)
    rw [oneChange_of (.inr moved)]
  intro body h isOpen
  have lookup (unlisted : ¬ isOpen) : s.image.openRecord serial.toNat = none :=
    openRecord_none fun o ho same => unlisted ⟨o, ho, same⟩
  refine ⟨fun bad => ?_, fun good ⟨o, ho, same⟩ => ?_, fun good unlisted => ⟨fun absent => ?_,
    fun k q found same first => ⟨fun annotated => ?_, fun blank => ?_⟩⟩⟩
  · refine congrArg Host.Outcome.next (State.serve_answer h ?_)
    rw [ownAnnotate, annotationResult_none bad]
  · have listed : (s.image.openRecord serial.toNat).isSome = true :=
      List.find?_isSome.mpr ⟨o, ho, decide_eq_true same⟩
    refine congrArg Host.Outcome.next (State.serve_answer h ?_)
    rw [ownAnnotate, annotationResult_eq good]
    exact if_pos listed
  · refine congrArg Host.Outcome.next (State.serve_answer h ?_)
    rw [ownAnnotate, annotationResult_eq good, lookup unlisted, indexOf_none absent]
    rfl
  · refine congrArg Host.Outcome.next (State.serve_answer h ?_)
    rw [ownAnnotate, annotationResult_eq good, lookup unlisted, indexOf_some found same first]
    exact if_pos ((annotated_iff found).mpr annotated)
  · have clear : ¬ s.image.ring.annotated k = true := fun e => (annotated_iff found).mp e blank
    have taken : ownAnnotate serial result inspector s =
        (s.annotateRecord k (decide (result = 1)) inspector).answer .ok [] := by
      rw [ownAnnotate, annotationResult_eq good, lookup unlisted, indexOf_some found same first]
      exact if_neg clear
    refine ⟨s.image.ring.modRecord k fun x => { x with annotation := some ⟨decide (result = 1), inspector⟩ },
      oldest_modRecord .., Ring.count_modRecord .., fun j room => record_modRecord_eq room found _ j, ?_⟩
    refine congrArg Host.Outcome.next ((State.serve_act h taken rfl rfl).trans ?_)
    rw [oneChange_of (.inr rfl)]
    rfl

/-! ## The closing procedure (R128, R130, R131) -/

/-- Settles O27: the closing procedure on a record that is open, and the ring with room for it. -/
theorem closingMovesARecordIntoTheRing : Obligations.ClosingMovesARecordIntoTheRing := by
  unfold Obligations.ClosingMovesARecordIntoTheRing
  intro s o d cause found room
  refine ⟨s.image.ring.append (o.record.closed d cause s.clock.stamp),
    s.image.counters.modify o.record.press fun x => x.bumpFor d, rfl, rfl, record_append_last .., fun k hk => ?_,
    fun p hp => Tab.get_modify_other _ hp _, ?_, closeRecord_found found d cause⟩
  · rw [Ring.record_append room, if_pos hk]
  · rw [Tab.get_modify_same]
    cases d <;> rfl

end Sys2Proof.Machine.PartRecords

/-!
PROOF. Retained Memory's stores: STORE, STORE_COMPLETE and PERIODIC_STORE_EXPIRY (O19).
-/

namespace Sys2Proof.Machine.RetainedMemory

/-! ## Stores and the generation (R146 to R148) -/

theorem dirty_iff (r : Retained) : r.dirty = true ↔ r.generation ≠ r.storedGeneration := decide_eq_true_iff

/-- An owner that leaves the generation alone and then answers. -/
theorem serve_unmoved {s u : State} {kind tag : Byte} {body : List Byte} (h : s.holds kind tag body)
    {own : State → State} {st : Status} {data : List Byte} (e : own s = u.answer st data) (phase : u.phase = s.phase)
    (inHand : u.link.inHand = s.link.inHand) (generation : u.retained.generation = s.retained.generation) :
    s.serve kind tag body own = u.repliedTo kind tag body st data := by
  rw [State.serve_act h e phase inHand, oneChange_of (.inl generation)]

/-- An event of the plant that leaves the generation alone. -/
theorem plantEvent_unmoved {s : State} {act : State → State} (hr : s.phase = .running)
    (h : (act s).retained.generation = s.retained.generation) : plantEvent s act = (act s).pump := by
  rw [plantEvent, if_pos hr, oneChange_of (.inl h)]

/-! ## STORE (R147, R149) -/

theorem ownStore_idle {s : State} (idle : s.retained.store = none) : ownStore s = s.startStore.answer .ok [] := by
  rw [ownStore, idle]
  rfl

theorem ownStore_inFlight {s : State} (inFlight : s.retained.store ≠ none) :
    ownStore s = (s.modRetained fun r => { r with storeAgain := true }).answer .ok [] := by
  rw [ownStore, if_pos (Option.isSome_iff_ne_none.mpr inFlight)]

/-! ## STORE_COMPLETE (R148, R152, R157) -/

theorem exec_storeComplete_eq (s : State) : exec .storeComplete s = execStoreComplete s := rfl

theorem exec_storeComplete_idle {s : State} (idle : s.retained.store = none) : exec .storeComplete s = .next s := by
  rw [exec_storeComplete_eq, execStoreComplete, idle]

theorem exec_storeComplete {s : State} {f : InFlight} (inFlight : s.retained.store = some f) :
    exec .storeComplete s = .next (s.storeCompletes f) := by
  rw [exec_storeComplete_eq, execStoreComplete, inFlight]

/-- The store-again flag outside power-fall handling (R148, R157). -/
theorem storeCompletes_working {s : State} (f : InFlight) (phase : s.phase = .running ∨ s.phase = .held) :
    s.storeCompletes f = (s.finishStore f).storeOnceMore.pump := by
  rcases phase with h | h <;> rw [State.storeCompletes, h]

theorem storeCompletes_powerFall {s : State} (f : InFlight) {final fallen : Bool}
    (phase : s.phase = .powerFall final fallen) :
    s.storeCompletes f = (s.finishStore f).powerFallOn final fallen := by
  rw [State.storeCompletes, phase]

/-- A dirty image gets its one final store (R152). -/
theorem powerFallOn_dirty {s : State} (dirty : s.retained.generation ≠ s.retained.storedGeneration) (fallen : Bool) :
    s.powerFallOn false fallen = { s with phase := .powerFall true fallen }.startStore := by
  rw [State.powerFallOn, (dirty_iff _).mpr dirty]
  rfl

/-- After the final store, or with a clean image, the part stops (R152). -/
theorem powerFallOn_stops {s : State} {final : Bool}
    (done : final = true ∨ s.retained.generation = s.retained.storedGeneration) (fallen : Bool) :
    s.powerFallOn final fallen = s.stop fallen := by
  have settled : ¬ (s.retained.dirty && !final) = true := by
    rw [Bool.and_eq_true, dirty_iff]
    rcases done with rfl | clean
    · exact fun h => Bool.false_ne_true h.2
    · exact fun h => h.1 clean
  rw [State.powerFallOn, if_neg settled]

/-! ## PERIODIC_STORE_EXPIRY (R150) -/

theorem periodicExpires_stopped {s : State} (stopped : s.retained.periodic = none) : s.periodicExpires = s := by
  rw [State.periodicExpires, stopped]
  rfl

/-- The timer starts again, and a dirty image with no store in flight gets a store. -/
theorem periodicExpires_runs {s : State} (runs : s.retained.periodic ≠ none) :
    s.periodicExpires =
      { s with
        retained :=
          { s.retained with
            periodic := startTimer s.image.settings.storeInterval,
            store :=
              if s.retained.store = none ∧ s.retained.generation ≠ s.retained.storedGeneration then
                some ⟨s.image, s.retained.generation⟩
              else s.retained.store } } := by
  have due : (s.retained.dirty && s.retained.store.isNone) = true ↔
      s.retained.store = none ∧ s.retained.generation ≠ s.retained.storedGeneration := by
    rw [Bool.and_eq_true, dirty_iff, Option.isNone_iff_eq_none, and_comm]
  rw [State.periodicExpires, if_pos (Option.isSome_iff_ne_none.mpr runs)]
  dsimp only
  by_cases store : s.retained.store = none ∧ s.retained.generation ≠ s.retained.storedGeneration
  · rw [if_pos (due.mpr store), if_pos store]
    rfl
  · rw [if_neg (mt due.mp store), if_neg store]
    rfl

/-- Settles O19: each command by the store in flight, the phase and the timer. -/
theorem storesStartCompleteAndRepeat : Obligations.StoresStartCompleteAndRepeat := by
  unfold Obligations.StoresStartCompleteAndRepeat
  refine ⟨fun s tag h => ⟨fun idle => ?_, fun inFlight => ?_⟩,
    fun s => ⟨exec_storeComplete_idle, fun f inFlight => ?_⟩,
    fun s running => ⟨fun stopped => ?_, fun runs => ?_⟩⟩
  · exact congrArg Host.Outcome.next (serve_unmoved h (ownStore_idle idle) rfl rfl rfl)
  · exact congrArg Host.Outcome.next (serve_unmoved h (ownStore_inFlight inFlight) rfl rfl rfl)
  · intro r t
    have finished : s.finishStore f = t := rfl
    refine ⟨fun working => ?_, fun final fallen falling => ⟨fun first dirty => ?_, fun done => ?_⟩⟩
    · rw [exec_storeComplete inFlight, storeCompletes_working f working, finished, State.storeOnceMore]
      refine congrArg Host.Outcome.next ((apply_ite State.pump ..).trans ?_)
      rfl
    · rw [exec_storeComplete inFlight, storeCompletes_powerFall f falling, finished, first,
        powerFallOn_dirty (s := t) dirty]
      rfl
    · rw [exec_storeComplete inFlight, storeCompletes_powerFall f falling, finished,
        powerFallOn_stops (s := t) done]
      exact ⟨fun low => by rw [low]; rfl, fun due => by rw [due]; rfl⟩
  · have nothing := periodicExpires_stopped stopped
    exact congrArg Host.Outcome.next ((plantEvent_unmoved running (by rw [nothing])).trans (by rw [nothing]))
  · have again := periodicExpires_runs runs
    exact congrArg Host.Outcome.next ((plantEvent_unmoved running (by rw [again])).trans (by rw [again]; rfl))

end Sys2Proof.Machine.RetainedMemory

/-!
PROOF. A never-written part's power-on reset and recall, with the plant standing open (O22).
-/

namespace Sys2Proof.Machine.RetainedMemory

open ChargeWeighing PressCycle

/-! ## A press that stands open (R99) -/

/-- A press that stands open, still at its reset values, derives the state it shows. -/
theorem derivePress_stands {s : State} {p : Fin 4} (stands : standsOpen s.inputs p)
    (fresh : s.press p = Press.reset) : s.derivePress p = s := by
  rw [derivePress_open stands, State.modPress, modify_same fresh.symm]

theorem derive_foldl_stands {s : State} (stands : ∀ p, standsOpen s.inputs p)
    (fresh : ∀ p, s.press p = Press.reset) (l : List (Fin 4)) : l.foldl State.derivePress s = s := by
  induction l with
  | nil => rfl
  | cons p l ih => rw [List.foldl_cons, derivePress_stands (stands p) (fresh p), ih]

/-- Below the warning the HISTORY_HIGH test leaves the crossing state ARMED and raises nothing (R133). -/
theorem historyTest_below {s : State} (below : s.image.recordCount < s.image.settings.historyWarning) :
    s.historyTest = { s with historyRaised := false } := if_neg (Nat.not_le.mpr below)

/-- A reset completes with every press standing open and the records below the warning: nothing is raised. -/
theorem completeReset_quiet {s : State} (stands : ∀ p, standsOpen s.lines p) (fresh : ∀ p, s.press p = Press.reset)
    (below : s.image.recordCount < s.image.settings.historyWarning) :
    s.completeReset =
      { s with
        inputs := s.lines, historyRaised := false,
        retained := { s.retained with periodic := startTimer s.image.settings.storeInterval },
        link := { s.link with rate := s.image.settings.linkRate } } := by
  have derived := derive_foldl_stands (s := { s with inputs := s.lines, historyRaised := false }) stands fresh
  have armed := historyTest_below (s := { s with inputs := s.lines, historyRaised := false }) below
  rw [State.completeReset, derived]
  dsimp only
  rw [armed]
  rfl

theorem standing_open (p : Fin 4) : standsOpen Lines.standing p := by
  revert p
  unfold standsOpen
  decide

/-! ## Power-on and recall of a never-written part (R145, R153 to R156) -/

/-- A never-written part in its recall: every block at its power-on values and the image at its defaults. The
generation and the recall result are those the recall has found, or what stood before it. -/
def freshRecall (generation rate reads : Nat) (result : RecallResult) : State :=
  { State.reset with
    phase := .recalling,
    retained :=
      { State.reset.retained with generation := generation, periodic := none, recallResult := result },
    link := Link.reset rate, freeReads := reads }

theorem countFreeRead_bad {s : State} (bad : s.retained.copy = .bad) :
    s.countFreeRead = { s with freeReads := s.freeReads + 1 } := by
  rw [State.countFreeRead, bad]

theorem powerOnReset_unpowered {s : State} (off : s.phase = .unpowered) :
    s.powerOnReset false = ({ s with pfail := false }.powerOnValues .waiting s.recallRate).beginRecall := by
  rw [State.powerOnReset, off]
  rfl

/-- The power-on reset of a never-written part without supply, with PFAIL low: the recall begins at once (R153). -/
theorem exec_powerOnReset_fresh {s : State} (empty : s.pending = []) (off : s.phase = .unpowered)
    (lines : s.lines = Lines.standing) (bad : s.retained.copy = .bad) :
    exec (.powerOnReset false) s =
      .next (freshRecall 0 s.recallRate (s.freeReads + 1) s.retained.recallResult) := by
  have arm : exec (.powerOnReset false) s = .next (s.powerOnReset false) := rfl
  have rate : ({ s with pfail := false }.powerOnValues .waiting s.recallRate).recallRate = s.recallRate := rfl
  have counted := countFreeRead_bad (s := { s with pfail := false }.powerOnValues .waiting s.recallRate) bad
  rw [arm, powerOnReset_unpowered off, State.beginRecall, counted, rate]
  generalize s.recallRate = rate
  unfold freshRecall State.powerOnValues
  simp only [empty, lines, bad]
  rfl

/-- The defaults taken from the bad copy (R155). -/
theorem recallClosed_fresh (generation rate reads : Nat) (result : RecallResult) :
    recallClosed (freshRecall generation rate reads result) = freshRecall 1 rate reads .defaulted := by
  rw [recallClosed_bad rfl]
  rfl

theorem recordCount_default_lt : Image.default.recordCount < Image.default.settings.historyWarning := by decide

theorem storeTimer_default : startTimer Image.default.settings.storeInterval = some 300000 := by decide

/-- The blocks of a never-written part started from the defaults, before the start-up events. -/
theorem startBlocks_fresh (rate reads : Nat) :
    startBlocks (freshRecall 1 rate reads .defaulted) =
      { State.reset with link := Link.reset Config.defaultLinkRate, freeReads := reads } := by
  have quiet := completeReset_quiet (s := (freshRecall 1 rate reads .defaulted).restartStation) standing_open
    (fun _ => Tab.get_fill ..) recordCount_default_lt
  have timer : startTimer (freshRecall 1 rate reads .defaulted).restartStation.image.settings.storeInterval =
      some 300000 := storeTimer_default
  rw [startBlocks, quiet, timer]
  rfl

/-! ## The start-up events (R156, R196, R198) -/

theorem mem_allKinds (k : EventKind) : k ∈ EventKind.all := by cases k <;> decide

/-- The Link Port once an enabled kind has been raised on a source, and offered to the notice rule. -/
def offered (l : Link) (src : Source) (k : EventKind) : Link :=
  { l with pending := l.pending.modify src.index (addKind k) }.offerNotice

theorem raise_enabled {s : State} {src : Source} {k : EventKind} (enabled : k ∈ s.link.mask)
    (notices : s.phase.notices = true) : s.raise src k = { s with link := offered s.link src k } := by
  have offers : (decide (k ∈ s.link.mask) && s.phase.notices) = true := by rw [decide_eq_true enabled, notices]; rfl
  unfold State.raise
  dsimp only
  rw [if_pos offers]
  rfl

theorem pump_starts {s : State} (notices : s.phase.notices = true) :
    s.pump = { s with link := s.link.startFrame } := if_pos notices

/-- MEMORY_DEFAULTED and STARTED become pending, and their one notice goes out. -/
theorem startFrame_fresh :
    (offered (offered (Link.reset Config.defaultLinkRate) .cell .memoryDefaulted) .cell .started).startFrame =
      State.reset.link := by decide

theorem raiseStarted_fresh (reads : Nat) :
    ({ State.reset with link := Link.reset Config.defaultLinkRate, freeReads := reads } : State).raiseStarted.pump =
      { State.reset with freeReads := reads } := by
  rw [raiseStarted_defaulted rfl, raise_enabled (k := .memoryDefaulted) (mem_allKinds _) rfl,
    raise_enabled (k := .started) (mem_allKinds _) rfl, pump_starts rfl]
  exact congrArg (fun l => ({ State.reset with link := l, freeReads := reads } : State)) startFrame_fresh

/-- Settles O22: the reset begins the recall, whose completion starts the blocks and raises the start-up events. -/
theorem theResetStateIsAFreshPartsRecall : Obligations.TheResetStateIsAFreshPartsRecall := by
  unfold Obligations.TheResetStateIsAFreshPartsRecall
  intro s empty off lines bad
  refine ⟨_, _, exec_powerOnReset_fresh empty off lines bad, exec_recallComplete rfl, ?_⟩
  rw [recallClosed_fresh, startBlocks_fresh, raiseStarted_fresh]
  rfl

end Sys2Proof.Machine.RetainedMemory

/-!
PROOF. The settings: which values each holds, what bringing a value into its setting's range does, and what a write
leaves (R170 to R173).
-/

namespace Sys2Proof.Machine.RecipeStore

/-! ## Values brought into a range (R171) -/

theorem clamp_range {lo hi : Int} (h : lo ≤ hi) (x : Int) : lo ≤ clamp lo hi x ∧ clamp lo hi x ≤ hi := by
  rw [HeaterPower.clamp_eq lo hi x h]
  omega

theorem clamp_of_range {lo hi x : Int} (h : lo ≤ x ∧ x ≤ hi) : clamp lo hi x = x := by
  rw [clamp, if_neg (by omega), if_neg (by omega)]

theorem clamp_eq_self {lo hi : Int} (h : lo ≤ hi) (x : Int) : clamp lo hi x = x ↔ lo ≤ x ∧ x ≤ hi :=
  ⟨fun e => e ▸ clamp_range h x, clamp_of_range⟩

theorem storedInterval_eq_self (v : Int) : storedInterval v = v ↔ v = 0 ∨ 10 ≤ v ∧ v ≤ 3600 := by
  unfold storedInterval
  split_ifs <;> omega

theorem storedRate_eq_self (v : Int) :
    storedRate v = v ↔ v = 9600 ∨ v = 19200 ∨ v = 57600 ∨ v = 115200 := by
  unfold storedRate
  split_ifs <;> omega

theorem settingStored_interval (v : Int) : settingStored 14 v = storedInterval v := rfl

theorem settingStored_rate (v : Int) : settingStored 16 v = storedRate v := rfl

/-- The settings have the identifiers 1 to 17. -/
theorem value_isSome_iff (c : Settings) (n : Nat) : (c.value n).isSome ↔ 1 ≤ n ∧ n ≤ 17 := by
  match n with
  | 0 | _ + 18 => simp [Settings.value]
  | 1 | 2 | 3 | 4 | 5 | 6 | 7 | 8 | 9 | 10 | 11 | 12 | 13 | 14 | 15 | 16 | 17 => simp [Settings.value]

/-- A value that has been brought into its setting's range is in it. -/
theorem settingStored_idem (n : Nat) (v : Int) : settingStored n (settingStored n v) = settingStored n v := by
  match n with
  | 2 | 4 =>
    change (if (if v = 0 then (0 : Int) else 1) = 0 then (0 : Int) else 1) = if v = 0 then 0 else 1
    split <;> simp
  | 14 =>
    rw [settingStored_interval, settingStored_interval, storedInterval_eq_self]
    unfold storedInterval
    split_ifs <;> omega
  | 16 =>
    rw [settingStored_rate, settingStored_rate, storedRate_eq_self]
    unfold storedRate
    split_ifs <;> omega
  | 0 | _ + 18 => rfl
  | 1 | 3 | 5 | 6 | 7 | 8 | 9 | 10 | 11 | 12 | 13 | 15 | 17 => exact clamp_of_range (clamp_range (by decide) v)

/-- A setting given a value of its range holds it. -/
theorem value_put (c : Settings) {n : Nat} (hn : 1 ≤ n ∧ n ≤ 17) {v : Int} (h : settingStored n v = v) :
    (c.put n v).value n = some v := by
  have natural {lo hi : Int} (low : 0 ≤ lo ∧ lo ≤ hi) (e : clamp lo hi v = v) :
      some (v.toNat : Int) = some v := by
    have := clamp_range low.2 v
    exact congrArg some (by omega)
  have flag (e : (if v = 0 then (0 : Int) else 1) = v) :
      some (if decide (v = 1) = true then (1 : Int) else 0) = some v := by
    split_ifs at e <;> subst e <;> rfl
  match n with
  | 0 | _ + 18 => omega
  | 2 | 4 => exact flag h
  | 13 => rfl
  | 14 =>
    rw [settingStored_interval, storedInterval_eq_self] at h
    exact congrArg some (show (v.toNat : Int) = v by omega)
  | 16 =>
    rw [settingStored_rate, storedRate_eq_self] at h
    exact congrArg some (show (v.toNat : Int) = v by omega)
  | 1 | 3 | 5 | 6 | 7 | 8 | 9 | 10 | 11 | 12 | 15 | 17 => exact natural (by decide) h

theorem value_put_other (c : Settings) {j n : Nat} (h : j ≠ n) (v : Int) : (c.put n v).value j = c.value j := by
  unfold Settings.put
  split <;> (unfold Settings.value; split <;> trivial)

/-- Each setting of a sound list is in its range. -/
theorem in_range_of_sound {c : Settings} (h : c.sound) (n : Nat) (w : Int) (e : c.value n = some w) :
    settingStored n w = w := by
  obtain ⟨h1, h3, h5, h6, h7, h8, h9, h10, h11, h12, h13, h14, h15, h16, h17⟩ := h
  match n with
  | 0 | _ + 18 => cases e
  | 2 | 4 =>
    obtain rfl := Option.some.inj e
    change (if (if _ then (1 : Int) else 0) = 0 then (0 : Int) else 1) = if _ then 1 else 0
    split <;> rfl
  | 14 =>
    obtain rfl := Option.some.inj e
    rw [settingStored_interval, storedInterval_eq_self]
    omega
  | 16 =>
    obtain rfl := Option.some.inj e
    simp only [Config.linkRates, List.mem_cons, List.not_mem_nil, or_false] at h16
    rw [settingStored_rate, storedRate_eq_self]
    omega
  | 1 | 3 | 5 | 6 | 7 | 8 | 9 | 10 | 11 | 12 | 13 | 15 | 17 =>
    obtain rfl := Option.some.inj e
    exact clamp_of_range (by omega)

/-- Settings that are each in its range are sound. -/
theorem sound_of_in_range {c : Settings} (h : ∀ n w, c.value n = some w → settingStored n w = w) : c.sound := by
  have range (n lo hi : Nat) {x : Nat} (le : lo ≤ hi := by decide) (e : c.value n = some (x : Int) := by rfl)
      (s : settingStored n x = clamp lo hi x := by rfl) : lo ≤ x ∧ x ≤ hi := by
    have := (clamp_eq_self (by omega) _).mp (s.symm.trans (h n x e))
    omega
  have zero := h 13 _ rfl
  have store := h 14 _ rfl
  have rate := h 16 _ rfl
  rw [settingStored_interval, storedInterval_eq_self] at store
  rw [settingStored_rate, storedRate_eq_self] at rate
  refine ⟨range 1 1 24, range 3 50 500, range 5 1 100, (range 6 0 2000).2, (range 7 0 50).2, range 8 1 50,
    range 9 50 5000, range 10 2 60, range 11 1000 30000, range 12 1 1048575, (clamp_eq_self (by decide) _).mp zero,
    by omega, (range 15 0 1024).2, ?_, (range 17 0 255).2⟩
  simp only [Config.linkRates, List.mem_cons, List.not_mem_nil, or_false]
  omega

/-- A write of a value brought into its range keeps the settings sound. -/
theorem sound_put {c : Settings} (h : c.sound) (n : Nat) (v : Int) : (c.put n (settingStored n v)).sound := by
  refine sound_of_in_range fun j w e => ?_
  by_cases hj : j = n
  · subst hj
    have named := (value_isSome_iff _ j).mp (Option.isSome_iff_exists.mpr ⟨w, e⟩)
    rw [value_put c named (settingStored_idem j v)] at e
    obtain rfl := Option.some.inj e
    exact settingStored_idem j v
  · rw [value_put_other c hj] at e
    exact in_range_of_sound h j w e

end Sys2Proof.Machine.RecipeStore

/-!
PROOF. The requests on settings and tuning: SET_SETTING (O15), GET_SETTING and SET_TUNING (O16).
-/

namespace Sys2Proof.Machine.RecipeStore

open ChargeWeighing

/-! ## Owners that write the image (R146) -/

/-- An owner that makes one change of the image and then answers. -/
theorem serve_written {s u : State} {kind tag : Byte} {body : List Byte} (h : s.holds kind tag body)
    {own : State → State} {st : Status} {data : List Byte} (e : own s = u.answer st data) (phase : u.phase = s.phase)
    (inHand : u.link.inHand = s.link.inHand)
    (generation : u.retained.generation = nextGeneration s.retained.generation) :
    s.serve kind tag body own = u.repliedTo kind tag body st data := by
  rw [State.serve_act h e phase inHand, oneChange_of (.inr generation)]

/-- The recipe lock is in force (R166). -/
theorem lockInForce_iff (s : State) :
    s.lockInForce = true ↔ s.image.settings.recipeLock = true ∧ s.inputs.key = false := by
  rw [State.lockInForce, Bool.and_eq_true, Bool.not_eq_true']

/-! ## SET_SETTING (R170 to R172) -/

theorem value_none_iff (c : Settings) (n : Nat) : c.value n = none ↔ n = 0 ∨ 17 < n := by
  rw [← Option.not_isSome_iff_eq_none, value_isSome_iff]
  omega

/-- The request would turn the lock off while it is in force. -/
theorem locksOut_iff (s : State) (n : Nat) (v : Int) :
    s.locksOut n v = true ↔
      n = 4 ∧ v = 0 ∧ s.image.settings.recipeLock = true ∧ s.inputs.key = false := by
  rw [State.locksOut, Bool.and_eq_true, Bool.and_eq_true, lockInForce_iff, decide_eq_true_eq, decide_eq_true_eq,
    and_assoc]
  refine and_congr_right fun hn => and_congr_left' ?_
  subst hn
  change (if v = 0 then (0 : Int) else 1) = 0 ↔ v = 0
  split <;> simp_all

/-- A clamped setting is stored within its two limits. -/
theorem settingStored_limits {n : Nat} {lo hi v : Int}
    (h : (n, lo, hi) ∈
      ([(1, 1, 24), (3, 50, 500), (5, 1, 100), (6, 0, 2000), (7, 0, 50), (8, 1, 50), (9, 50, 5000),
        (10, 2, 60), (11, 1000, 30000), (12, 1, 1048575), (13, -8388608, 8388607), (15, 0, 1024),
        (17, 0, 255)] : List (Nat × Int × Int))) : settingStored n v = max lo (min hi v) := by
  simp only [List.mem_cons, List.not_mem_nil, or_false, Prod.mk.injEq] at h
  rcases h with h | h | h | h | h | h | h | h | h | h | h | h | h <;> obtain ⟨rfl, rfl, rfl⟩ := h <;>
    exact HeaterPower.clamp_eq _ _ _ (by decide)

/-- Whatever a setting does as it is written, the phase, the request in hand and the generation stay (R172). -/
theorem writeSetting_frame (s : State) (n : Nat) (v : Int) :
    (s.writeSetting n v).phase = s.phase ∧ (s.writeSetting n v).link.inHand = s.link.inHand ∧
      (s.writeSetting n v).retained.generation = nextGeneration s.retained.generation := by
  unfold State.writeSetting State.settingActs
  split
  · exact ⟨rfl, rfl, rfl⟩
  · split
    · refine ⟨State.historyTest_phase _, ?_, congrArg Retained.generation (State.historyTest_retained _)⟩
      unfold State.historyTest
      repeat' split
      · rfl
      · exact raise_inHand ..
      · rfl
    · exact ⟨rfl, rfl, rfl⟩

theorem storedInterval_nonneg (v : Int) : 0 ≤ storedInterval v := by
  unfold storedInterval
  split_ifs <;> omega

/-- The periodic store timer as a stored interval starts it (R150). -/
theorem startTimer_toNat {w : Int} (h : 0 ≤ w) :
    startTimer w.toNat = if w = 0 then none else some (w.toNat * 1000) := by
  unfold startTimer seconds
  exact if_congr (by omega) rfl rfl

/-- A setting written: its value in the image, the store timer started afresh by a new interval, and the HISTORY_HIGH
test made on a new warning (R172). -/
theorem writeSetting_eq (s : State) (n : Nat) (v : Int) :
    s.writeSetting n v =
      let w := settingStored n v
      let t : State :=
        { s with
          image := { s.image with settings := s.image.settings.put n w },
          retained :=
            { s.retained with
              generation := nextGeneration s.retained.generation,
              periodic :=
                if n = 14 then (if w = 0 then none else some (w.toNat * 1000)) else s.retained.periodic } }
      if n = 15 then t.historyTest else t := by
  unfold State.writeSetting State.settingActs
  by_cases interval : n = 14
  · subst interval
    have started : startTimer (s.image.settings.put 14 (settingStored 14 v)).storeInterval =
        if settingStored 14 v = 0 then none else some ((settingStored 14 v).toNat * 1000) :=
      startTimer_toNat (storedInterval_nonneg v)
    rw [if_pos rfl, State.startPeriodic]
    dsimp only [State.writeImage_image]
    rw [started]
    rfl
  · simp only [if_neg interval]
    rfl

/-- Settles O15: the two refusals, and the value stored in its range with what the setting does at once. -/
theorem setSettingStoresTheValueInItsRange : Obligations.SetSettingStoresTheValueInItsRange := by
  unfold Obligations.SetSettingStoresTheValueInItsRange
  intro s tag ident value h n v
  refine ⟨fun bad => ?_, fun four zero locked high => ?_, fun low high may => ?_⟩
  · refine congrArg Host.Outcome.next (State.serve_answer h ?_)
    rw [ownSetSetting, (value_none_iff _ n).mpr bad]
  · obtain ⟨w, hw⟩ := Option.isSome_iff_exists.mp ((value_isSome_iff s.image.settings n).mpr (by omega))
    refine congrArg Host.Outcome.next (State.serve_answer h ?_)
    rw [ownSetSetting, hw]
    exact if_pos ((locksOut_iff s n v).mpr ⟨four, zero, locked, high⟩)
  · obtain ⟨w, hw⟩ := Option.isSome_iff_exists.mp ((value_isSome_iff s.image.settings n).mpr ⟨low, high⟩)
    obtain ⟨phase, inHand, generation⟩ := writeSetting_frame s n v
    have taken : ownSetSetting ident value s = (s.writeSetting n v).answer .ok (sbe32 (settingStored n v)) := by
      rw [ownSetSetting, hw]
      exact if_neg (mt (locksOut_iff s n v).mp may)
    refine ⟨settingStored n v, s.image.settings.put n (settingStored n v),
      value_put _ ⟨low, high⟩ (settingStored_idem n v), fun j hj => value_put_other _ hj _, ?_, ?_, ?_,
      fun lo hi => settingStored_limits, ?_⟩
    · rintro (e | e) <;> rw [e] <;> rfl
    · intro e
      rw [e, settingStored_interval, storedInterval]
      exact if_congr (by omega) rfl rfl
    · intro e
      rw [e]
      rfl
    · intro t
      refine congrArg Host.Outcome.next ((serve_written h taken phase inHand generation).trans ?_)
      rw [writeSetting_eq]
      rfl

/-! ## GET_SETTING (R173) -/

theorem tuningZone_eq {n : Nat} {z : Fin 24} (h : n = z.val + 32) : tuningZone n = some z := by
  have hz := z.isLt
  rw [tuningZone, dif_pos (by omega)]
  exact congrArg some (Fin.ext (by simp [h]))

theorem tuningZone_none {n : Nat} (h : n < 32 ∨ 55 < n) : tuningZone n = none := dif_neg (by omega)

theorem settingValue_setting {m : Image} {n : Nat} {w : Int} (h : m.settings.value n = some w) :
    m.settingValue n = some w := by
  rw [Image.settingValue, h]

theorem settingValue_tuning (m : Image) {n : Nat} {z : Fin 24} (h : n = z.val + 32) :
    m.settingValue n = some (((m.tuning.get z).kp * 256 + (m.tuning.get z).ki : Nat) : Int) := by
  rw [Image.settingValue, (value_none_iff _ n).mpr (by omega), tuningZone_eq h]
  rfl

theorem settingValue_none (m : Image) {n : Nat} (h : n = 0 ∨ 17 < n ∧ n < 32 ∨ 55 < n) :
    m.settingValue n = none := by
  rw [Image.settingValue, (value_none_iff _ n).mpr (by omega), tuningZone_none (by omega)]

/-- A number that is not negative has the same four bytes signed and unsigned. -/
theorem sbe32_natCast (n : Nat) : sbe32 (n : Int) = be32 n := by
  rw [sbe32, be32, BitVec.ofInt_natCast]

theorem ownGetSetting_some {s : State} {ident : Byte} {w : Int} (h : s.image.settingValue ident.toNat = some w) :
    ownGetSetting ident s = s.answer .ok (sbe32 w) := by
  rw [ownGetSetting, h]

/-! ## SET_TUNING (R174) -/

theorem zoneNo_eq {b : Byte} {z : Fin 24} (h : b.toNat = z.val) : zoneNo b = some z := by
  unfold zoneNo
  rw [dif_pos (by omega)]
  exact congrArg some (Fin.ext h)

theorem zoneNo_none {b : Byte} (h : 23 < b.toNat) : zoneNo b = none := dif_neg (by omega)

/-- Settles O16: what GET_SETTING reads, by its identifier, and the gains of one zone. -/
theorem getSettingReadsAndSetTuningWrites : Obligations.GetSettingReadsAndSetTuningWrites := by
  unfold Obligations.GetSettingReadsAndSetTuningWrites
  refine ⟨fun s tag ident h => ⟨fun w held => ?_, value_isSome_iff _ _, fun z hz => ?_, fun nothing => ?_⟩,
    fun s tag zone kp ki h => ⟨fun high => ?_, fun z hz => ?_⟩⟩
  · exact congrArg Host.Outcome.next (State.serve_answer h (ownGetSetting_some (settingValue_setting held)))
  · rw [← sbe32_natCast]
    exact congrArg Host.Outcome.next (State.serve_answer h (ownGetSetting_some (settingValue_tuning _ hz)))
  · refine congrArg Host.Outcome.next (State.serve_answer h ?_)
    rw [ownGetSetting, settingValue_none _ nothing]
  · refine congrArg Host.Outcome.next (State.serve_answer h ?_)
    rw [ownSetTuning, zoneNo_none high]
  · refine congrArg Host.Outcome.next
      (serve_written (u := s.writeImage fun m => { m with tuning := m.tuning.set z ⟨kp.toNat, ki.toNat⟩ }) h ?_
        rfl rfl rfl)
    rw [ownSetTuning, zoneNo_eq hz]

end Sys2Proof.Machine.RecipeStore

/-!
PROOF. READ_RECIPE and ASSIGN_RECIPE (O18).
-/

namespace Sys2Proof.Machine.RecipeStore

open ChargeWeighing

/-! ## Slots and the presses that use them (R162, R168) -/

theorem slotNo_eq {b : Byte} {k : Fin 16} (h : b.toNat = k.val) : slotNo b = some k := by
  unfold slotNo
  rw [dif_pos (by omega)]
  exact congrArg some (Fin.ext h)

theorem slotNo_none {b : Byte} (h : 15 < b.toNat) : slotNo b = none := dif_neg (by omega)

theorem isCurrentPress_iff (s : State) (p : Fin 4) :
    s.isCurrentPress p = true ↔ ∃ o, s.station.current = some o ∧ o.press = p := by
  unfold State.isCurrentPress
  cases s.station.current <;> simp

/-- A press is in use (R162). -/
theorem pressInUse_iff (s : State) (p : Fin 4) :
    s.pressInUse p = true ↔
      (s.pressHeat p).mode = .run ∨ (s.press p).tickets ≠ [] ∨ (s.press p).bound ≠ none ∨
        ∃ o, s.station.current = some o ∧ o.press = p := by
  rw [State.pressInUse, Bool.or_eq_true, Bool.or_eq_true, Bool.or_eq_true, isCurrentPress_iff, decide_eq_true_eq,
    Bool.not_eq_true', Option.isSome_iff_ne_none, or_assoc, or_assoc, ← Bool.not_eq_true, List.isEmpty_iff]
  rfl

/-- A set of presses as a byte has a bit for each press, the press's own number (R204). -/
theorem setByte_presses (member : Fin 4 → Bool) :
    ∃ b : Byte, setByte member = [b] ∧
      ∀ i : Fin 8, b.getLsbD i.val = true ↔ ∃ p : Fin 4, p.val = i.val ∧ member p = true := by
  have bits (a b c d : Bool) (i : Fin 8) :
      (BitVec.ofNat 8 ((if a then 1 else 0) + ((if b then 2 else 0) + ((if c then 4 else 0) +
          ((if d then 8 else 0) + 0))))).getLsbD i.val = true ↔
        0 = i.val ∧ a ∨ 1 = i.val ∧ b ∨ 2 = i.val ∧ c ∨ 3 = i.val ∧ d := by
    revert a b c d i
    decide
  refine ⟨_, rfl, fun i => (bits (member 0) (member 1) (member 2) (member 3) i).trans ?_⟩
  simp [Fin.exists_fin_succ]

/-! ## READ_RECIPE (R167) -/

theorem ownReadRecipe_recipe {s : State} {slot : Byte} {k : Fin 16} (hk : slot.toNat = k.val) {r : Recipe}
    (held : (s.image.slots.get k).recipe = some r) :
    ownReadRecipe slot s =
      s.answer .ok (be16 r.revision ++ r.bytes ++ setByte fun p => decide (s.image.assigned.get p = some k)) := by
  rw [ownReadRecipe, slotNo_eq hk]
  dsimp only
  rw [held]

theorem ownReadRecipe_empty {s : State} {slot : Byte} {k : Fin 16} (hk : slot.toNat = k.val)
    (empty : (s.image.slots.get k).recipe = none) : ownReadRecipe slot s = s.answer .notFound [] := by
  rw [ownReadRecipe, slotNo_eq hk]
  dsimp only
  rw [empty]

/-! ## ASSIGN_RECIPE (R168) -/

theorem ownAssignRecipe_eq {press slot : Byte} {p : Fin 4} {k : Fin 16} (hp : press.toNat = p.val)
    (hk : slot.toNat = k.val) (s : State) :
    ownAssignRecipe press slot s =
      if (s.image.slots.get k).recipe.isNone then s.answer .notFound []
      else if s.pressInUse p then s.answer .inUse []
      else (s.writeImage fun m => { m with assigned := m.assigned.set p (some k) }).answer .ok [] := by
  rw [ownAssignRecipe, pressNo_eq hp, slotNo_eq hk]

theorem ownAssignRecipe_badValue {press slot : Byte} (h : 3 < press.toNat ∨ 15 < slot.toNat) (s : State) :
    ownAssignRecipe press slot s = s.answer .badValue [] := by
  unfold ownAssignRecipe
  split
  · next p k hp hk =>
    rcases h with high | high
    · rw [pressNo_none high] at hp; cases hp
    · rw [slotNo_none high] at hk; cases hk
  · rfl
  · rfl

/-- Settles O18: the refusals in order, the record and the presses as read, and the slot assigned. -/
theorem recipesAreReadAndAssigned : Obligations.RecipesAreReadAndAssigned := by
  unfold Obligations.RecipesAreReadAndAssigned
  refine ⟨fun s tag slot h => ⟨fun high => ?_, fun k hk => ⟨fun empty => ?_, fun r held => ?_⟩⟩,
    fun s tag press slot h => ⟨fun high => ?_, fun p k hp hk => ?_⟩⟩
  · refine congrArg Host.Outcome.next (State.serve_answer h ?_)
    rw [ownReadRecipe, slotNo_none high]
  · exact congrArg Host.Outcome.next (State.serve_answer h (ownReadRecipe_empty hk empty))
  · obtain ⟨presses, byte, bits⟩ := setByte_presses fun p => decide (s.image.assigned.get p = some k)
    refine ⟨presses, fun i => ?_, ?_⟩
    · simpa only [decide_eq_true_eq] using bits i
    · rw [← byte]
      exact congrArg Host.Outcome.next (State.serve_answer h (ownReadRecipe_recipe hk held))
  · exact congrArg Host.Outcome.next (State.serve_answer h (ownAssignRecipe_badValue high s))
  · intro busy
    refine ⟨fun empty => ?_, fun held inUse => ?_, fun held free => ?_⟩
    · refine congrArg Host.Outcome.next (State.serve_answer h ?_)
      rw [ownAssignRecipe_eq hp hk, if_pos (Option.isNone_iff_eq_none.mpr empty)]
    · refine congrArg Host.Outcome.next (State.serve_answer h ?_)
      rw [ownAssignRecipe_eq hp hk, if_neg (mt Option.isNone_iff_eq_none.mp held),
        if_pos ((pressInUse_iff s p).mpr inUse)]
    · refine congrArg Host.Outcome.next (serve_written h ?_ rfl rfl rfl)
      rw [ownAssignRecipe_eq hp hk, if_neg (mt Option.isNone_iff_eq_none.mp held),
        if_neg (mt (pressInUse_iff s p).mp free)]
      rfl

end Sys2Proof.Machine.RecipeStore

/-!
PROOF. WRITE_RECIPE's structural checks (R164): each check by the record sent, the first that fails, and what a record
that passes them all satisfies.
-/

namespace Sys2Proof.Machine.RecipeStore

/-! ## What the checks look at -/

/-- The characters before the first byte 0 of the name. -/
theorem nameChars_eq (r : RawRecipe) : r.nameChars = r.name.toList.takeWhile fun b => !decide (b = 0) := by
  simp only [RawRecipe.nameChars, ne_eq, decide_not]

/-- Check 1 fails: a character is not printable. -/
def Unprintable (r : RawRecipe) : Prop := ∃ b ∈ r.nameChars, b.toNat < 32 ∨ 126 < b.toNat

theorem unprintable_iff (r : RawRecipe) :
    (r.nameChars.any fun b => decide (b.toNat < 32) || decide (126 < b.toNat)) = true ↔ Unprintable r := by
  simp only [List.any_eq_true, Bool.or_eq_true, decide_eq_true_eq, Unprintable]

/-- Check 4 fails at segment `i`: its end kind is none of the three. -/
def WrongKind (r : RawRecipe) (i : Fin 8) : Prop :=
  i.val < r.segmentCount.toNat ∧ 2 < (r.segments.get i).endKind.toNat

theorem endKindOf_none_iff (b : Byte) : endKindOf b = none ↔ 2 < b.toNat := by
  unfold endKindOf
  split_ifs <;> simp <;> omega

theorem endKindOf_atClose_iff (b : Byte) : endKindOf b = some .atClose ↔ b.toNat = 1 := by
  unfold endKindOf
  split_ifs <;> simp <;> omega

theorem endKindAt_eq (r : RawRecipe) (i : Fin 8) : r.endKindAt i.val = endKindOf (r.segments.get i).endKind :=
  dif_pos i.isLt

/-- Check 5 fails: no segment in use waits for the press to close. -/
def NoClose (r : RawRecipe) : Prop :=
  ∀ i : Fin 8, i.val < r.segmentCount.toNat → (r.segments.get i).endKind.toNat ≠ 1

theorem noClose_iff {r : RawRecipe} (fits : r.segmentCount.toNat ≤ 8) :
    (!(List.range r.segmentCount.toNat).any fun i => decide (r.endKindAt i = some .atClose)) = true ↔ NoClose r := by
  simp only [Bool.not_eq_true', List.any_eq_false, List.mem_range, decide_eq_true_eq]
  have close (i : Fin 8) : r.endKindAt i.val = some .atClose ↔ (r.segments.get i).endKind.toNat = 1 := by
    rw [endKindAt_eq, endKindOf_atClose_iff]
  exact ⟨fun h i used => mt (close i).mpr (h i.val used),
    fun h i used => mt (close ⟨i, by omega⟩).mp (h ⟨i, by omega⟩ used)⟩

/-- Band `i`'s lower bound once clamped. -/
def lowerBound (r : RawRecipe) (i : Fin 8) : Int := max 0 (min 4000 (r.bands.get i).lower.toInt)

theorem lowerAt_eq (r : RawRecipe) (i : Fin 8) : r.lowerAt i.val = lowerBound r i :=
  (dif_pos i.isLt).trans (HeaterPower.clamp_eq _ _ _ (by decide))

/-- Check 7 fails at band `i`: its lower bound is not above the one before it. -/
def NotRising (r : RawRecipe) (i : Fin 8) : Prop :=
  i.val < r.bandCount.toNat ∧ ∃ j : Fin 8, j.val + 1 = i.val ∧ lowerBound r i ≤ lowerBound r j

theorem notRising_iff (r : RawRecipe) (i : Fin 8) :
    (decide (0 < i.val) && decide (r.lowerAt i.val ≤ r.lowerAt (i.val - 1))) = true ↔
      ∃ j : Fin 8, j.val + 1 = i.val ∧ lowerBound r i ≤ lowerBound r j := by
  rw [Bool.and_eq_true, decide_eq_true_eq, decide_eq_true_eq, lowerAt_eq]
  constructor
  · rintro ⟨pos, le⟩
    have e := lowerAt_eq r ⟨i.val - 1, by omega⟩
    exact ⟨⟨i.val - 1, by omega⟩, Nat.sub_add_cancel pos, e ▸ le⟩
  · rintro ⟨j, next, le⟩
    refine ⟨by omega, ?_⟩
    rw [show i.val - 1 = j.val by omega, lowerAt_eq]
    exact le

theorem yesNo_none_iff (b : Byte) : (yesNo b).isNone = true ↔ 1 < b.toNat := by
  unfold yesNo
  split_ifs <;> simp <;> omega

/-- Check 9 or 10 fails: the minimum cure or the cure target, once clamped, is above the maximum cure. -/
def TooLong (r : RawRecipe) : Prop :=
  max 1 (min 7200 r.maxCure.toInt) < max 0 (min 3600 r.minCure.toInt) ∨
    max 1 (min 7200 r.maxCure.toInt) < max 1 (min 3600 r.cureTarget.toInt)

/-! ## The first entry that fails -/

/-- No entry in use fails. -/
theorem firstFailing_none {n : Nat} {fails : Nat → Bool} {P : Fin 8 → Prop} (fits : n ≤ 8)
    (spec : ∀ i : Fin 8, fails i.val = true ↔ P i) :
    firstFailing n fails = none ↔ ∀ i : Fin 8, ¬ (i.val < n ∧ P i) := by
  rw [firstFailing, List.find?_eq_none]
  simp only [List.mem_range]
  constructor
  · exact fun h i ⟨used, fail⟩ => h i.val used ((spec i).mpr fail)
  · exact fun h i used fail => h ⟨i, by omega⟩ ⟨used, (spec ⟨i, by omega⟩).mp fail⟩

/-- The first entry in use that fails. -/
theorem firstFailing_some {n : Nat} {fails : Nat → Bool} {P : Fin 8 → Prop}
    (spec : ∀ i : Fin 8, fails i.val = true ↔ P i) {i : Fin 8} (used : i.val < n) (fail : P i)
    (first : ∀ j : Fin 8, j < i → ¬ (j.val < n ∧ P j)) : firstFailing n fails = some i.val := by
  refine List.find?_range_eq_some.mpr ⟨(spec i).mpr fail, List.mem_range.mpr used, fun j hj => ?_⟩
  have hi := i.isLt
  have passes : ¬ fails j = true := fun e =>
    first ⟨j, by omega⟩ hj ⟨hj.trans used, (spec ⟨j, by omega⟩).mp e⟩
  simpa using passes

/-! ## The checks in order (R164) -/

/-- The ten checks in order, each made once those before it have passed. -/
theorem badField_checks (r : RawRecipe) :
    let n := r.segmentCount.toNat
    let m := r.bandCount.toNat
    (Unprintable r → r.badField = some 1) ∧
    (¬ Unprintable r →
      (n < 1 ∨ 8 < n → r.badField = some 5) ∧
      (1 ≤ n → n ≤ 8 →
        (n ≤ r.restSegment.toNat → r.badField = some 6) ∧
        (r.restSegment.toNat < n →
          (∀ i, WrongKind r i → (∀ j, j < i → ¬ WrongKind r j) → r.badField = some (10 + 4 * i.val)) ∧
          ((∀ i, ¬ WrongKind r i) →
            (NoClose r → r.badField = some (10 + 4 * (n - 1))) ∧
            (¬ NoClose r →
              (m < 1 ∨ 8 < m → r.badField = some 46) ∧
              (1 ≤ m → m ≤ 8 →
                (∀ i, NotRising r i → (∀ j, j < i → ¬ NotRising r j) →
                  r.badField = some (47 + 2 * i.val)) ∧
                ((∀ i, ¬ NotRising r i) →
                  (1 < r.autoOpen.toNat → r.badField = some 67) ∧
                  (r.autoOpen.toNat ≤ 1 →
                    (TooLong r → r.badField = some 65) ∧ (¬ TooLong r → r.badField = none))))))))) := by
  intro n m
  have kinds (i : Fin 8) : (r.endKindAt i.val).isNone = true ↔ 2 < (r.segments.get i).endKind.toNat := by
    rw [Option.isNone_iff_eq_none, endKindAt_eq, endKindOf_none_iff]
  have e := RawRecipe.badField.eq_1 r
  refine ⟨fun h => e.trans (if_pos ((unprintable_iff r).mpr h)), fun printable => ?_⟩
  replace e := e.trans (if_neg (mt (unprintable_iff r).mp printable))
  refine ⟨fun h => e.trans (if_pos h), fun low fits => ?_⟩
  replace e := e.trans (if_neg (by omega))
  refine ⟨fun h => e.trans (if_pos h), fun rest => ?_⟩
  replace e := e.trans (if_neg (by omega))
  refine ⟨fun i ⟨used, wrong⟩ first => ?_, fun right => ?_⟩
  · rw [firstFailing_some kinds used wrong first] at e
    exact e
  rw [(firstFailing_none fits kinds).mpr right] at e
  dsimp only at e
  refine ⟨fun h => e.trans (if_pos ((noClose_iff fits).mpr h)), fun close => ?_⟩
  replace e := e.trans (if_neg (mt (noClose_iff fits).mp close))
  refine ⟨fun h => e.trans (if_pos h), fun low fits => ?_⟩
  replace e := e.trans (if_neg (by omega))
  refine ⟨fun i ⟨used, falls⟩ first => ?_, fun rises => ?_⟩
  · rw [firstFailing_some (notRising_iff r) used falls first] at e
    exact e
  rw [(firstFailing_none fits (notRising_iff r)).mpr rises] at e
  dsimp only at e
  refine ⟨fun h => e.trans (if_pos ((yesNo_none_iff _).mpr h)), fun yes => ?_⟩
  replace e := e.trans (if_neg (mt (yesNo_none_iff _).mp (by omega)))
  rw [HeaterPower.clamp_eq 1 7200 _ (by decide), HeaterPower.clamp_eq 0 3600 _ (by decide),
    HeaterPower.clamp_eq 1 3600 _ (by decide)] at e
  refine ⟨fun long => ?_, fun fine => ?_⟩
  · rcases long with minimum | target
    · exact e.trans (if_pos minimum)
    · rw [if_pos target, ite_self] at e
      exact e
  · obtain ⟨minimum, target⟩ := not_or.mp fine
    rw [if_neg minimum, if_neg target] at e
    exact e

end Sys2Proof.Machine.RecipeStore

/-!
PROOF. The record that WRITE_RECIPE stores (R160, R163, R165): each field brought into its range, the unused entries
zero, and a sound recipe when every check has passed (R159).
-/

namespace Sys2Proof.Machine.RecipeStore

/-! ## Clamped fields (R163) -/

theorem clampHalf_eq {lo hi : Int} (h : 0 ≤ lo ∧ lo ≤ hi) (x : Half) :
    (clampHalf lo hi x : Int) = max lo (min hi x.toInt) := by
  rw [clampHalf, HeaterPower.clamp_eq lo hi _ h.2]
  omega

theorem clampHalf_range {lo hi : Nat} (h : lo ≤ hi) (x : Half) :
    lo ≤ clampHalf lo hi x ∧ clampHalf lo hi x ≤ hi := by
  have := clampHalf_eq (lo := lo) (hi := hi) (by omega) x
  omega

/-! ## The entries stored (R160) -/

variable (r : RawRecipe) (revision : Nat) {i : Fin 8}

theorem segments_stored (i : Fin 8) : (r.stored revision).segments.get i = r.segmentStored i := Tab.get_build ..

theorem bands_stored (i : Fin 8) : (r.stored revision).bands.get i = r.bandStored i := Tab.get_build ..

theorem offsets_stored (i : Fin 6) :
    (r.stored revision).offsets.get i = max (-200) (min 200 (r.offsets.get i).toInt) :=
  (Tab.get_build ..).trans (HeaterPower.clamp_eq _ _ _ (by decide))

variable {r}

theorem segmentStored_unused (h : r.segmentCount.toNat ≤ i.val) : r.segmentStored i = ⟨0, 0, 0, .time⟩ :=
  if_neg (by rw [RawRecipe.used]; omega)

theorem segmentStored_used (h : i.val < r.segmentCount.toNat) :
    r.segmentStored i =
      { target := clampHalf 0 4000 (r.segments.get i).target, rate := clampHalf 0 100 (r.segments.get i).rate,
        hold := (r.segments.get i).hold.toNat, endKind := (endKindOf (r.segments.get i).endKind).getD .time } :=
  if_pos (by rw [RawRecipe.used]; omega)

theorem bandStored_unused (h : r.bandCount.toNat ≤ i.val) : r.bandStored i = ⟨0, 0⟩ :=
  if_neg (by rw [RawRecipe.usedBands]; omega)

theorem bandStored_used (h : i.val < r.bandCount.toNat) :
    r.bandStored i = ⟨clampHalf 0 4000 (r.bands.get i).lower, clampHalf 0 64 (r.bands.get i).weight⟩ :=
  if_pos (by rw [RawRecipe.usedBands]; omega)

theorem segmentStored_limits (r : RawRecipe) (i : Fin 8) :
    (r.segmentStored i).target ≤ 4000 ∧ (r.segmentStored i).rate ≤ 100 ∧ (r.segmentStored i).hold ≤ 65535 := by
  rcases Nat.lt_or_ge i.val r.segmentCount.toNat with used | unused
  · rw [segmentStored_used used]
    exact ⟨(clampHalf_range (Nat.zero_le _) _).2, (clampHalf_range (Nat.zero_le _) _).2,
      Nat.le_of_lt_succ (BitVec.isLt _)⟩
  · rw [segmentStored_unused unused]
    exact ⟨Nat.zero_le _, Nat.zero_le _, Nat.zero_le _⟩

theorem bandStored_limits (r : RawRecipe) (i : Fin 8) :
    (r.bandStored i).lower ≤ 4000 ∧ (r.bandStored i).weight ≤ 64 := by
  rcases Nat.lt_or_ge i.val r.bandCount.toNat with used | unused
  · rw [bandStored_used used]
    exact ⟨(clampHalf_range (Nat.zero_le _) _).2, (clampHalf_range (Nat.zero_le _) _).2⟩
  · rw [bandStored_unused unused]
    exact ⟨Nat.zero_le _, Nat.zero_le _⟩

/-- The lower bound of a band in use is stored as it was checked. -/
theorem lower_stored (h : i.val < r.bandCount.toNat) : ((r.bandStored i).lower : Int) = lowerBound r i := by
  rw [bandStored_used h]
  exact clampHalf_eq (by decide) _

theorem endKindOf_code {b : Byte} (h : b.toNat ≤ 2) : ((endKindOf b).getD .time).code = b.toNat := by
  unfold endKindOf
  split_ifs with time close opened
  · exact time.symm
  · exact close.symm
  · exact opened.symm
  · omega

/-! ## A record that passes (R159, R164) -/

/-- Every check of R164 has passed. -/
structure Passes (r : RawRecipe) : Prop where
  printable : ¬ Unprintable r
  counted : 1 ≤ r.segmentCount.toNat ∧ r.segmentCount.toNat ≤ 8
  rest : r.restSegment.toNat < r.segmentCount.toNat
  close : ¬ NoClose r
  banded : 1 ≤ r.bandCount.toNat ∧ r.bandCount.toNat ≤ 8
  rises : ∀ i, ¬ NotRising r i
  fits : ¬ TooLong r

/-- Entries of which none is the first to fail do not fail. -/
theorem none_of_no_first {P : Fin 8 → Prop} (h : ∀ i, P i → (∀ j, j < i → ¬ P j) → False) (i : Fin 8) : ¬ P i := by
  induction i using WellFoundedLT.induction with
  | ind i ih => exact fun fails => h i fails ih

theorem passes_of_badField_none (h : r.badField = none) : Passes r := by
  have never {n : Nat} (named : r.badField = some n) : False := by
    rw [h] at named
    cases named
  obtain ⟨name, checks⟩ := badField_checks r
  have printable : ¬ Unprintable r := fun bad => never (name bad)
  obtain ⟨count, checks⟩ := checks printable
  have counted : 1 ≤ r.segmentCount.toNat ∧ r.segmentCount.toNat ≤ 8 :=
    by_contra fun bad => never (count (by omega))
  obtain ⟨rest, checks⟩ := checks counted.1 counted.2
  have rest : r.restSegment.toNat < r.segmentCount.toNat := by_contra fun bad => never (rest (by omega))
  obtain ⟨kind, checks⟩ := checks rest
  obtain ⟨gate, checks⟩ := checks (none_of_no_first fun i wrong first => never (kind i wrong first))
  have close : ¬ NoClose r := fun bad => never (gate bad)
  obtain ⟨count, checks⟩ := checks close
  have banded : 1 ≤ r.bandCount.toNat ∧ r.bandCount.toNat ≤ 8 := by_contra fun bad => never (count (by omega))
  obtain ⟨bound, checks⟩ := checks banded.1 banded.2
  have rises := none_of_no_first fun i falls first => never (bound i falls first)
  obtain ⟨yesNo, checks⟩ := checks rises
  obtain ⟨long, -⟩ := checks (by_contra fun bad => never (yesNo (by omega)))
  exact ⟨printable, counted, rest, close, banded, rises, fun bad => never (long bad)⟩

/-- Bounds that each are above the one before are above all those before. -/
theorem lowerBound_lt (h : ∀ i, ¬ NotRising r i) {i j : Fin 8} (lt : i < j) (used : j.val < r.bandCount.toNat) :
    lowerBound r i < lowerBound r j := by
  obtain ⟨j, hj⟩ := j
  induction j with
  | zero => cases lt
  | succ j ih =>
    have step : lowerBound r ⟨j, by omega⟩ < lowerBound r ⟨j + 1, hj⟩ := by
      by_contra le
      exact h ⟨j + 1, hj⟩ ⟨used, ⟨j, by omega⟩, rfl, Int.not_lt.mp le⟩
    rcases Nat.lt_succ_iff_lt_or_eq.mp lt with lt | eq
    · exact (ih (by omega) lt (Nat.lt_of_succ_lt used)).trans step
    · rwa [show i = ⟨j, by omega⟩ from Fin.ext eq]

/-- The name as stored is that of a sound recipe. -/
theorem name_sound (h : ¬ Unprintable r) :
    r.nameChars.length ≤ 12 ∧ ∀ b ∈ r.nameChars, 32 ≤ b.toNat ∧ b.toNat ≤ 126 := by
  refine ⟨(List.takeWhile_sublist _).length_le.trans r.name.size.le, fun b hb => ?_⟩
  by_contra bad
  exact h ⟨b, hb, by omega⟩

/-- A record that passes every check is stored as a sound recipe. -/
theorem sound_stored (h : Passes r) : (r.stored revision).sound := by
  obtain ⟨printable, counted, rest, close, banded, rises, fits⟩ := h
  obtain ⟨minimum, target⟩ := not_or.mp fits
  rw [← clampHalf_eq (by decide), ← clampHalf_eq (by decide)] at minimum target
  refine ⟨name_sound printable, clampHalf_range (by decide) _, clampHalf_range (by decide) _,
    clampHalf_range (by decide) _, counted, rest, fun i => ?_, ?_, fun i => ?_, clampHalf_range (by decide) _, banded,
    fun i => ?_, fun i j lt used => ?_, clampHalf_range (by decide) _, (clampHalf_range (Nat.zero_le _) _).2,
    clampHalf_range (by decide) _, Int.ofNat_le.mp (Int.not_lt.mp minimum), Int.ofNat_le.mp (Int.not_lt.mp target),
    clampHalf_range (by decide) _, clampHalf_range (by decide) _, clampHalf_range (by decide) _,
    (clampHalf_range (Nat.zero_le _) _).2, Nat.min_le_right _ _, clampHalf_range (by decide) _⟩
  · rw [segments_stored]
    obtain ⟨target, rate, hold⟩ := segmentStored_limits r i
    exact ⟨target, rate, hold, segmentStored_unused⟩
  · simp only [NoClose, not_forall, not_not] at close
    obtain ⟨i, used, close⟩ := close
    refine ⟨i, used, ?_⟩
    rw [segments_stored, segmentStored_used used, (endKindOf_atClose_iff _).mpr close]
    rfl
  · rw [offsets_stored]
    omega
  · rw [bands_stored]
    obtain ⟨lower, weight⟩ := bandStored_limits r i
    exact ⟨lower, weight, bandStored_unused⟩
  · rw [bands_stored, bands_stored]
    have lower := lowerBound_lt rises lt used
    rw [← lower_stored (Nat.lt_trans lt used), ← lower_stored used] at lower
    exact Int.ofNat_lt.mp lower

end Sys2Proof.Machine.RecipeStore

/-!
PROOF. WRITE_RECIPE (O17): the numbers of the fields that needed clamping, and the request as a whole.
-/

namespace Sys2Proof.Machine.RecipeStore

open ChargeWeighing

/-! ## The fields that are clamped (R163) -/

/-- A clamped field as its number, the value sent and its two limits. -/
def fieldTuple (f : ClampedField) : Nat × Int × Int × Int := (f.number, f.sent, f.lo, f.hi)

theorem fieldTuple_injective : Function.Injective fieldTuple := fun f g e => by
  cases f
  cases g
  simpa [fieldTuple] using e

/-- The clamped fields that a record has once, whatever its counts. -/
def singleFields (r : RawRecipe) : List ClampedField :=
  [⟨2, r.nominal.toInt, 100, 30000⟩, ⟨3, r.tolerance.toInt, 1, 100⟩, ⟨4, r.potLife.toInt, 10, 7200⟩,
    ⟨45, r.readyBand.toInt, 1, 200⟩, ⟨63, r.cureTarget.toInt, 1, 3600⟩, ⟨64, r.minCure.toInt, 0, 3600⟩,
    ⟨65, r.maxCure.toInt, 1, 7200⟩, ⟨66, r.overcure.toInt, 16, 64⟩, ⟨68, r.closeTimeout.toInt, 1, 120⟩,
    ⟨69, r.openTimeout.toInt, 1, 120⟩, ⟨70, r.minOpen.toInt, 0, 600⟩, ⟨71, r.demouldTries.toNat, 0, 3⟩,
    ⟨72, r.strokeTimeout.toInt, 1, 30⟩]

theorem mem_segmentFields {r : RawRecipe} {f : ClampedField} :
    f ∈ r.segmentFields ↔ ∃ i : Fin 8, i.val < r.segmentCount.toNat ∧
      (fieldTuple f = (7 + 4 * i.val, (r.segments.get i).target.toInt, 0, 4000) ∨
        fieldTuple f = (8 + 4 * i.val, (r.segments.get i).rate.toInt, 0, 100)) := by
  have used (i : Fin 8) : i.val < r.used ↔ i.val < r.segmentCount.toNat := by rw [RawRecipe.used]; omega
  simp only [RawRecipe.segmentFields, List.mem_flatMap, List.mem_filter, List.mem_finRange, true_and,
    decide_eq_true_eq, List.mem_cons, List.not_mem_nil, or_false, used]
  cases f
  simp only [fieldTuple, ClampedField.mk.injEq, Prod.mk.injEq]

theorem mem_bandFields {r : RawRecipe} {f : ClampedField} :
    f ∈ r.bandFields ↔ ∃ i : Fin 8, i.val < r.bandCount.toNat ∧
      (fieldTuple f = (47 + 2 * i.val, (r.bands.get i).lower.toInt, 0, 4000) ∨
        fieldTuple f = (48 + 2 * i.val, (r.bands.get i).weight.toInt, 0, 64)) := by
  have used (i : Fin 8) : i.val < r.usedBands ↔ i.val < r.bandCount.toNat := by rw [RawRecipe.usedBands]; omega
  simp only [RawRecipe.bandFields, List.mem_flatMap, List.mem_filter, List.mem_finRange, true_and,
    decide_eq_true_eq, List.mem_cons, List.not_mem_nil, or_false, used]
  cases f
  simp only [fieldTuple, ClampedField.mk.injEq, Prod.mk.injEq]

theorem mem_offsetFields {r : RawRecipe} {f : ClampedField} :
    f ∈ r.offsetFields ↔ ∃ i : Fin 6, fieldTuple f = (39 + i.val, (r.offsets.get i).toInt, -200, 200) := by
  simp only [RawRecipe.offsetFields, List.mem_map, List.mem_finRange, true_and]
  cases f
  simp only [fieldTuple, ClampedField.mk.injEq, Prod.mk.injEq, eq_comm]

/-- A clamped field of a record: one it has once, one of a segment or band in use, or an offset. -/
def Numeric (r : RawRecipe) (field : Nat × Int × Int × Int) : Prop :=
  field ∈ (singleFields r).map fieldTuple ∨
  (∃ i : Fin 8, i.val < r.segmentCount.toNat ∧
    (field = (7 + 4 * i.val, (r.segments.get i).target.toInt, 0, 4000) ∨
      field = (8 + 4 * i.val, (r.segments.get i).rate.toInt, 0, 100))) ∨
  (∃ i : Fin 6, field = (39 + i.val, (r.offsets.get i).toInt, -200, 200)) ∨
  ∃ i : Fin 8, i.val < r.bandCount.toNat ∧
    (field = (47 + 2 * i.val, (r.bands.get i).lower.toInt, 0, 4000) ∨
      field = (48 + 2 * i.val, (r.bands.get i).weight.toInt, 0, 64))

theorem mem_clampFields {r : RawRecipe} {f : ClampedField} : f ∈ r.clampFields ↔ Numeric r (fieldTuple f) := by
  rw [Numeric, List.mem_map_of_injective fieldTuple_injective, ← mem_segmentFields, ← mem_offsetFields,
    ← mem_bandFields]
  simp only [RawRecipe.clampFields, singleFields, List.mem_append, List.mem_cons, List.not_mem_nil, or_false]
  tauto

/-- The numbers of all the fields that may be clamped, of every segment and band. -/
def clampableNumbers : List Nat :=
  [2, 3, 4] ++ (List.finRange 8).flatMap (fun i => [7 + 4 * i.val, 8 + 4 * i.val]) ++
    (List.finRange 6).map (fun i => 39 + i.val) ++ [45] ++
    (List.finRange 8).flatMap (fun i => [47 + 2 * i.val, 48 + 2 * i.val]) ++ [63, 64, 65, 66, 68, 69, 70, 71, 72]

theorem clampableNumbers_rise : clampableNumbers.Pairwise (· < ·) := by decide

/-- The fields of a record are listed in the order of their numbers. -/
theorem numbers_sublist (r : RawRecipe) : (r.clampFields.map ClampedField.number).Sublist clampableNumbers := by
  have segments : (r.segmentFields.map ClampedField.number).Sublist
      ((List.finRange 8).flatMap fun i => [7 + 4 * i.val, 8 + 4 * i.val]) := by
    rw [RawRecipe.segmentFields, List.map_flatMap]
    exact List.filter_sublist.flatMap _
  have bands : (r.bandFields.map ClampedField.number).Sublist
      ((List.finRange 8).flatMap fun i => [47 + 2 * i.val, 48 + 2 * i.val]) := by
    rw [RawRecipe.bandFields, List.map_flatMap]
    exact List.filter_sublist.flatMap _
  have offsets : r.offsetFields.map ClampedField.number = (List.finRange 6).map fun i => 39 + i.val := by
    rw [RawRecipe.offsetFields, List.map_map]
    rfl
  rw [RawRecipe.clampFields]
  simp only [List.map_append, offsets]
  exact (((((List.Sublist.refl [2, 3, 4]).append segments).append (.refl _)).append (.refl [45])).append bands).append
    (.refl _)

theorem clampedNumbers_rise (r : RawRecipe) : r.clampedNumbers.Pairwise (· < ·) :=
  clampableNumbers_rise.sublist ((List.filter_sublist.map _).trans (numbers_sublist r))

/-- The numbers held are those of the fields sent outside their limits. -/
theorem mem_clampedNumbers (r : RawRecipe) (k : Nat) :
    k ∈ r.clampedNumbers ↔ ∃ v lo hi : Int, Numeric r (k, v, lo, hi) ∧ (v < lo ∨ hi < v) := by
  simp only [RawRecipe.clampedNumbers, List.mem_map, List.mem_filter, Bool.or_eq_true, decide_eq_true_eq,
    mem_clampFields]
  constructor
  · rintro ⟨f, ⟨numeric, outside⟩, rfl⟩
    exact ⟨f.sent, f.lo, f.hi, numeric, outside⟩
  · rintro ⟨v, lo, hi, numeric, outside⟩
    exact ⟨⟨k, v, lo, hi⟩, ⟨numeric, outside⟩, rfl⟩

/-! ## WRITE_RECIPE (R161, R162, R165) -/

/-- A slot is in use: it holds a recipe, and a press assigned to it is in use (R162). -/
theorem slotInUse_iff (s : State) (k : Fin 16) :
    s.slotInUse k = true ↔ (s.image.slots.get k).recipe ≠ none ∧
      ∃ p, s.image.assigned.get p = some k ∧
        ((s.pressHeat p).mode = .run ∨ (s.press p).tickets ≠ [] ∨ (s.press p).bound ≠ none ∨
          ∃ o, s.station.current = some o ∧ o.press = p) := by
  simp only [State.slotInUse, Bool.and_eq_true, List.any_eq_true, List.mem_finRange, true_and, decide_eq_true_eq,
    Option.isSome_iff_ne_none, pressInUse_iff]

section Owner

variable {s : State} {slot : Byte} {k : Fin 16} {r : RawRecipe} (hk : slot.toNat = k.val)
include hk

theorem ownWriteRecipe_locked (locked : s.lockInForce = true) : ownWriteRecipe slot r s = s.answer .locked [] := by
  simp only [ownWriteRecipe, slotNo_eq hk, locked, if_true]

variable (unlocked : ¬ s.lockInForce = true)
include unlocked

theorem ownWriteRecipe_inUse (inUse : s.slotInUse k = true) : ownWriteRecipe slot r s = s.answer .inUse [] := by
  simp only [ownWriteRecipe, slotNo_eq hk, if_neg unlocked, inUse, if_true]

variable (free : ¬ s.slotInUse k = true)
include free

theorem ownWriteRecipe_badRecipe {n : Nat} (bad : r.badField = some n) :
    ownWriteRecipe slot r s = s.answer .badRecipe (be8 n) := by
  simp only [ownWriteRecipe, slotNo_eq hk, if_neg unlocked, if_neg free, bad]

theorem ownWriteRecipe_taken (passed : r.badField = none) :
    ownWriteRecipe slot r s = (s.storeRecipe k r).answer .ok (s.writeReply k r) := by
  simp only [ownWriteRecipe, slotNo_eq hk, if_neg unlocked, if_neg free, passed]

end Owner

/-- Settles O17: the request's checks in order, the structural checks, the fields clamped, and the record stored. -/
theorem writeRecipeChecksClampsAndStores : Obligations.WriteRecipeChecksClampsAndStores := by
  unfold Obligations.WriteRecipeChecksClampsAndStores
  refine ⟨fun s tag slot r h => ?_, fun r => ?_⟩
  · intro busy
    refine ⟨fun high => ?_, fun k hk => ⟨fun locked => ?_, fun unlocked => ?_⟩⟩
    · refine congrArg Host.Outcome.next (State.serve_answer h ?_)
      rw [ownWriteRecipe, slotNo_none high]
    · exact congrArg Host.Outcome.next
        (State.serve_answer h (ownWriteRecipe_locked hk ((lockInForce_iff s).mpr locked)))
    replace unlocked := mt (lockInForce_iff s).mp unlocked
    refine ⟨fun inUse => ?_, fun free n bad => ?_, fun free passed => ?_⟩
    · exact congrArg Host.Outcome.next
        (State.serve_answer h (ownWriteRecipe_inUse hk unlocked ((slotInUse_iff s k).mpr inUse)))
    · exact congrArg Host.Outcome.next
        (State.serve_answer h (ownWriteRecipe_badRecipe hk unlocked (mt (slotInUse_iff s k).mp free) bad))
    · exact congrArg Host.Outcome.next
        (serve_written h (ownWriteRecipe_taken hk unlocked (mt (slotInUse_iff s k).mp free) passed) rfl rfl rfl)
  · intro within n m name lower most unprintable wrongKind noClose notRising tooLong
    have same : Unprintable r ↔ unprintable := by
      unfold Unprintable
      rw [nameChars_eq]
    obtain ⟨named, others⟩ := badField_checks r
    refine ⟨fun bad => named (same.mpr bad), fun good => others (mt same.mp good),
      ⟨clampedNumbers_rise r, mem_clampedNumbers r⟩, fun revision => ?_⟩
    refine ⟨fun passed => sound_stored revision (passes_of_badField_none passed), rfl, nameChars_eq r, rfl, rfl, rfl,
      decide_eq_true_iff, clampHalf_eq (by decide) _, clampHalf_eq (by decide) _, clampHalf_eq (by decide) _,
      clampHalf_eq (by decide) _, clampHalf_eq (by decide) _, clampHalf_eq (by decide) _, clampHalf_eq (by decide) _,
      clampHalf_eq (by decide) _, clampHalf_eq (by decide) _, clampHalf_eq (by decide) _, clampHalf_eq (by decide) _,
      ?_, clampHalf_eq (by decide) _, offsets_stored r revision, fun i => ⟨fun unused => ?_, fun used => ?_⟩,
      fun i => ⟨fun unused => ?_, fun used => ?_⟩⟩
    · change ((min r.demouldTries.toNat 3 : Nat) : Int) = max 0 (min 3 (r.demouldTries.toNat : Int))
      omega
    · exact (segments_stored ..).trans (segmentStored_unused unused)
    · rw [segments_stored, segmentStored_used used]
      exact ⟨clampHalf_eq (by decide) _, clampHalf_eq (by decide) _, rfl, endKindOf_code⟩
    · exact (bands_stored ..).trans (bandStored_unused unused)
    · rw [bands_stored, bandStored_used used]
      exact ⟨clampHalf_eq (by decide) _, clampHalf_eq (by decide) _⟩

end Sys2Proof.Machine.RecipeStore

/-!
PROOF. What a command can do to the recipes, settings and gains, said once: a relation between the state before and the
state after, under which they stay in their ranges (R159, R171, R174).
-/

namespace Sys2Proof.Machine.RecipeStore

/-! ## The store's part of an image -/

/-- What the Recipe and Settings Store keeps in an image. -/
def shelf (m : Image) : Settings × Tab Tuning 24 × Tab Slot 16 := (m.settings, m.tuning, m.slots)

theorem storeSound_of_shelf {m n : Image} (h : shelf n = shelf m) (hm : m.storeSound) : n.storeSound := by
  simp only [shelf, Prod.mk.injEq] at h
  obtain ⟨settings, tuning, slots⟩ := h
  rw [Image.storeSound, settings, tuning, slots]
  exact hm

theorem shelf_of_records {m n : Image} (h : RecordsKept m n) : shelf n = shelf m := by
  rw [shelf, h.settings, h.tuning, h.slots]
  rfl

theorem storeSound_default : Image.default.storeSound := by
  refine ⟨by unfold Settings.sound; decide, fun z => ?_, fun k => ?_⟩
  · rw [show Image.default.tuning.get z = ⟨40, 4⟩ from Tab.get_fill ..]
    decide
  · rw [show Image.default.slots.get k = ⟨0, none⟩ from Tab.get_fill ..]
    exact ⟨Nat.zero_le _, fun r hr => by cases hr⟩

/-! ## Writes of the store (R159, R170, R174) -/

theorem storeSound_put {m : Image} (h : m.storeSound) (n : Nat) (v : Int) :
    ({ m with settings := m.settings.put n (settingStored n v) } : Image).storeSound := by
  obtain ⟨settings, rest⟩ := h
  exact ⟨sound_put settings n v, rest⟩

theorem storeSound_tuning {m : Image} (h : m.storeSound) (z : Fin 24) (kp ki : Byte) :
    ({ m with tuning := m.tuning.set z ⟨kp.toNat, ki.toNat⟩ } : Image).storeSound := by
  obtain ⟨settings, gains, slots⟩ := h
  refine ⟨settings, fun y => ?_, slots⟩
  by_cases hy : y = z
  · subst hy
    rw [Tab.get_set_same]
    exact ⟨Nat.le_of_lt_succ kp.isLt, Nat.le_of_lt_succ ki.isLt⟩
  · rw [Tab.get_set_other _ hy]
    exact gains y

/-- A record that passes the checks is a sound recipe that bears its slot's revision (R159, R165). -/
theorem storeSound_recipe {m : Image} (h : m.storeSound) (k : Fin 16) {r : RawRecipe} (passed : r.badField = none) :
    ({ m with slots := m.slots.modify k fun x => x.write r } : Image).storeSound := by
  obtain ⟨settings, gains, slots⟩ := h
  refine ⟨settings, gains, fun j => ?_⟩
  by_cases hj : j = k
  · subst hj
    rw [Tab.get_modify_same]
    refine ⟨Nat.le_of_lt_succ (Nat.mod_lt _ (by decide)), fun x hx => ?_⟩
    obtain rfl := Option.some.inj hx
    exact ⟨sound_stored _ (passes_of_badField_none passed), rfl⟩
  · rw [Tab.get_modify_other _ hj]
    exact slots j

/-! ## Keeping the store sound -/

/-- From `s` to `t` every recipe, setting and gain stays in its range, in the working image and in those retained. -/
structure Stays (s t : State) : Prop where
  sound : s.storeSound → t.storeSound

/-- What the invariant reads of a state. -/
def kept (s : State) : (Settings × Tab Tuning 24 × Tab Slot 16) × List Image := (shelf s.image, s.retained.images)

namespace Stays

variable {s t u : State} {p : Fin 4}

theorem refl (s : State) : Stays s s := ⟨id⟩

theorem trans (h : Stays s t) (k : Stays t u) : Stays s u := ⟨k.sound ∘ h.sound⟩

/-- The store's part of the image as it was, and no image retained but those held and the working one. -/
theorem of_frame (image : shelf t.image = shelf s.image)
    (images : ∀ m ∈ t.retained.images, m = s.image ∨ m ∈ s.retained.images) : Stays s t :=
  ⟨fun ⟨working, stored⟩ =>
    ⟨storeSound_of_shelf image working, fun m hm => (images m hm).elim (fun e => e ▸ working) (stored m)⟩⟩

/-- A state that differs in nothing the invariant reads. -/
theorem of_kept (h : kept t = kept s) : Stays s t := by
  simp only [kept, Prod.mk.injEq] at h
  obtain ⟨image, images⟩ := h
  exact of_frame image fun m hm => .inr (images ▸ hm)

theorem blind (s : State) : BlindToLink (Stays s) := fun _ _ _ h => ⟨h.sound⟩

theorem answer (h : Stays s t) (st : Status) (data : List Byte) : Stays s (t.answer st data) :=
  (blind s).answer h st data

theorem answered (s : State) (st : Status) (data : List Byte) : Stays s (s.answer st data) := (refl s).answer st data

theorem raise (h : Stays s t) (src : Source) (k : EventKind) : Stays s (t.raise src k) := (blind s).raise h src k

theorem pump (h : Stays s t) : Stays s t.pump := (blind s).pump h

theorem modLink (h : Stays s t) (f : Link → Link) : Stays s (t.modLink f) := (blind s).link h _

theorem historyTest (h : Stays s t) : Stays s t.historyTest := by
  refine h.trans (of_kept ?_)
  rw [kept, State.historyTest_image, State.historyTest_retained]
  rfl

theorem modStation (s : State) (f : Station → Station) : Stays s (s.modStation f) := of_kept rfl

theorem writeImage {f : Image → Image} (h : s.image.storeSound → (f s.image).storeSound) : Stays s (s.writeImage f) :=
  ⟨fun ⟨working, stored⟩ => ⟨h working, stored⟩⟩

theorem modRetained {f : Retained → Retained}
    (h : ∀ m ∈ (f s.retained).images, m = s.image ∨ m ∈ s.retained.images) : Stays s (s.modRetained f) :=
  of_frame rfl h

/-- Records written or closed. -/
theorem of_records (h : RecordOnly s t) : Stays s t := by
  refine of_frame (shelf_of_records h.image) fun m hm => .inr ?_
  rw [h.eq] at hm
  exact hm

/-- An operation of one press. -/
theorem of_press (h : PressOnly p s t) : Stays s t := by
  refine of_frame (shelf_of_records h.records) fun m hm => .inr ?_
  rw [h.eq] at hm
  exact hm

theorem foldl {α : Type} {f : State → α → State} (hf : ∀ t a, Stays t (f t a)) (l : List α) (s : State) :
    Stays s (l.foldl f s) := by
  induction l generalizing s with
  | nil => exact refl s
  | cons a l ih => exact (hf s a).trans (ih _)

theorem serve {own : State → State} (hown : ∀ u, Stays u (own u)) (s : State) (kind tag : Byte) (body : List Byte) :
    Stays s (s.serve kind tag body own) :=
  (blind s).serve (fun u _ h => h.trans (hown u)) (refl s) kind tag body

theorem plantEvent {act : State → State} (hact : ∀ u, Stays u (act u)) (s : State) : Stays s (plantEvent s act) :=
  (blind s).plantEvent (fun u _ h => h.trans (hact u)) (refl s)

theorem lineEvent {act : State → State} (hact : ∀ u, Stays u (act u)) (s : State) : Stays s (lineEvent s act) :=
  (blind s).lineEvent (fun u h => h.trans (hact u)) (refl s)

theorem hear (s : State) (bytes : List Byte) : Stays s (s.hear bytes) := (blind s).hear (refl s) bytes

theorem abandonFrame (h : Stays s t) : Stays s t.abandonFrame := by
  rw [State.abandonFrame_eq]
  exact (blind s).link h _

end Stays

end Sys2Proof.Machine.RecipeStore

/-!
PROOF. The operations of the plant and of Retained Memory that keep the recipes, settings and gains in their ranges.
-/

namespace Sys2Proof.Machine.RecipeStore

open ChargeWeighing

namespace Stays

variable {s t : State}

/-! ## Settings and counters (R170, R180) -/

theorem startPeriodic (s : State) : Stays s s.startPeriodic := of_kept rfl

theorem writeSetting (s : State) (n : Nat) (v : Int) : Stays s (s.writeSetting n v) := by
  have written : Stays s (s.writeImage fun m => { m with settings := m.settings.put n (settingStored n v) }) :=
    writeImage fun h => storeSound_put h n v
  unfold State.writeSetting State.settingActs
  split
  · exact written.trans (startPeriodic _)
  · split
    · exact written.historyTest
    · exact written

theorem snapshot (s : State) (target : Option (Fin 4)) (cleared : Bool) : Stays s (s.snapshot target cleared) := by
  have copied : Stays s (s.copyCounters target cleared) := of_kept rfl
  unfold State.snapshot
  dsimp only
  split
  · exact copied.trans (of_kept rfl)
  · exact copied

/-! ## Heat (R4 to R23) -/

theorem setMode (s : State) (p : Fin 4) (m : HeatMode) (standby : Int) (held : Tab Bool 6) :
    Stays s (s.setMode p m standby held) := by
  rw [setMode_eq]
  exact of_kept rfl

theorem raiseZoneFault (s : State) (z : Fin 24) (found : Option ZoneFault) : Stays s (s.raiseZoneFault z found) := by
  unfold State.raiseZoneFault
  split
  · exact (refl s).raise _ _
  · exact refl s

theorem modZone (s : State) (z : Fin 24) (f : Zone → Zone) : Stays s (s.modZone z f) := of_kept rfl

theorem takeReading (s : State) (z : Fin 24) (x : Reading) : Stays s (s.takeReading z x) :=
  (modZone s z _).trans (raiseZoneFault _ _ _)

theorem readiness (s : State) (p : Fin 4) : Stays s (s.readiness p) := by
  have marked (b : Bool) : Stays s (s.modHeat p fun h => { h with ready := b }) := of_kept rfl
  unfold State.readiness
  dsimp only
  split
  · exact (marked _).raise _ _
  · exact marked _

theorem zoneBoundary (s : State) : Stays s s.zoneBoundary := by
  have zones (t : State) (f : Fin 24 → Zone → Zone) : Stays t { t with zones := t.zones.mapWith f } := of_kept rfl
  have readings : Stays s s.boundaryReadings := of_kept rfl
  have faults (t : State) : Stays t t.boundaryFaults := (zones t _).trans (foldl (fun u i => raiseZoneFault u i _) _ _)
  exact (((readings.trans (zones _ _)).trans (faults _)).trans (zones _ _)).trans (foldl readiness _ _)

theorem allocate (s : State) : Stays s s.allocate := by
  have charged (zones : Tab Zone 24) (t : State) (p : Fin 4) : Stays t (t.chargeShortfall zones p) := by
    unfold State.chargeShortfall
    dsimp only
    split
    · exact refl t
    · split
      · exact ((refl t).raise _ _).trans (of_records (.writeBound ..))
      · exact (refl t).raise _ _
  have granted (zones : Tab Zone 24) (alloc : Alloc) : Stays s { s with zones := zones, alloc := alloc } := of_kept rfl
  exact (granted _ _).trans (foldl (charged _) _ _)

theorem boundary (s : State) : Stays s s.boundary :=
  ((zoneBoundary s).trans (allocate _)).trans (foldl (fun t p => of_press (.cureBoundary (p := p) t)) _ _)

/-! ## The presses (R71, R72) -/

theorem guardFalls (s : State) : Stays s s.guardFalls := by
  have low : Stays s { s with inputs := { s.inputs with guardOk := false } } := of_kept rfl
  exact low.trans (foldl (fun t p => (blind t).oneChange (of_press (.guardAt (p := p) t))) _ _)

theorem inputEvent (p : Fin 4) (levels : PressInputs) (guardRise : Bool) (s : State) :
    Stays s (inputEvent p levels guardRise s) := by
  unfold Machine.inputEvent
  dsimp only
  split
  · refine trans ?_ (plantEvent (fun u => of_press (.settled (p := p) u)) _)
    exact of_kept rfl
  · exact of_kept rfl

/-! ## The scale (R43 to R65) -/

theorem zeroCapture (s : State) : Stays s s.zeroCapture := (modStation s _).raise _ _

theorem autoZero (s : State) (range : Nat) : Stays s (s.autoZero range) := by
  unfold State.autoZero
  split
  · exact zeroCapture s
  · exact refl s

theorem takeCheck (s : State) : Stays s s.takeCheck := by
  rcases takeCheck_cases s with e | ⟨o, e, -⟩
  · rw [e]; exact refl s
  · rw [e]; exact modStation s _

theorem judgeCharge (s : State) (q : Record) (r : Recipe) : Stays s (s.judgeCharge q r) := by
  unfold State.judgeCharge
  split <;> exact of_kept rfl

theorem capture (s : State) : Stays s s.capture := by
  have obliged (t : State) : Stays t t.zeroObligation := by
    rw [zeroObligation_eq]
    exact of_kept rfl
  unfold State.capture
  split
  · exact refl s
  · exact (((judgeCharge s _ _).trans (modStation _ _)).trans (obliged _)).historyTest

theorem onSample (s : State) : Stays s s.onSample := by
  unfold State.onSample
  split
  case h_1 => exact autoZero s _
  case h_2 =>
    refine trans ?_ (takeCheck _)
    split
    · exact autoZero s _
    · exact refl s
  case h_4 =>
    split
    · exact modStation s _
    · split
      · exact capture s
      · exact refl s
  case h_6 => exact refl s
  all_goals
    split
    · exact modStation s _
    · exact refl s

theorem faultSample (s : State) : Stays s s.faultSample := by
  unfold State.faultSample
  dsimp only
  split
  · exact modStation s _
  · exact (modStation s _).raise _ _

theorem settleExpires (s : State) : Stays s s.settleExpires := by
  unfold State.settleExpires
  split
  · exact (modStation s _).raise _ _
  · exact refl s

/-! ## Stores (R147 to R152) -/

theorem startStore (s : State) : Stays s s.startStore := by
  refine modRetained fun m hm => ?_
  rcases mem_images.mp hm with copy | ⟨f, hf, rfl⟩
  · exact .inr (mem_images.mpr (.inl copy))
  · cases hf
    exact .inl rfl

theorem finishStore {f : InFlight} (h : s.retained.store = some f) : Stays s (s.finishStore f) := by
  refine (modRetained fun m hm => .inr (mem_images.mpr (.inr ⟨f, h, ?_⟩))).raise _ _
  rcases mem_images.mp hm with ⟨g, hg⟩ | ⟨g, hg, -⟩
  · cases hg
    rfl
  · cases hg

theorem storeOnceMore (s : State) : Stays s s.storeOnceMore := by
  unfold State.storeOnceMore
  split
  · exact (modRetained fun _ hm => .inr hm).trans (startStore _)
  · exact refl s

theorem periodicExpires (s : State) : Stays s s.periodicExpires := by
  unfold State.periodicExpires
  dsimp only
  split
  · split
    · exact (startPeriodic s).trans (startStore _)
    · exact startPeriodic s
  · exact refl s

/-! ## The power-on reset and the recall (R153 to R156) -/

theorem withoutSupply (s : State) : Stays s { s with retained := s.retained.withoutSupply } :=
  of_frame rfl fun m hm => .inr (withoutSupply_images _ m hm)

/-- The power-on values hold the defaults, and Retained Memory its copy only. -/
theorem powerOnValues (s : State) (phase : Phase) (rate : Nat) : Stays s (s.powerOnValues phase rate) := by
  refine ⟨fun ⟨_, stored⟩ => ⟨storeSound_default, fun m hm => stored m ?_⟩⟩
  rcases mem_images.mp hm with copy | ⟨f, hf, -⟩
  · exact mem_images.mpr (.inl copy)
  · cases hf

theorem beginRecall (s : State) : Stays s s.beginRecall := by
  unfold State.beginRecall
  rw [HeaterPower.countFreeRead_eq]
  exact of_kept rfl

theorem powerOn (s : State) : Stays s s.powerOn := by
  have values := powerOnValues s .waiting s.recallRate
  unfold State.powerOn
  dsimp only
  split
  · exact values
  · exact values.trans (beginRecall _)

theorem powerOnReset (s : State) (pfail : Bool) : Stays s (s.powerOnReset pfail) := by
  have level : Stays s { s with pfail := pfail } := of_kept rfl
  have lost := (level.trans (withoutSupply _)).trans (powerOn _)
  unfold State.powerOnReset
  dsimp only
  split
  · split
    · exact lost
    · exact of_kept rfl
  · split
    · exact level.trans (powerOn _)
    · exact level.trans (beginRecall _)
  · exact level.trans (powerOn _)
  · exact level.trans (powerOn _)
  all_goals exact lost

theorem completeReset (s : State) : Stays s s.completeReset := by
  obtain ⟨-, -, -, image, images⟩ := completeReset_facts s
  exact of_kept (by rw [kept, image, images]; rfl)

/-- The recall takes the image of a good copy, or the defaults (R154, R155). -/
theorem recalled (s : State) : Stays s s.recalled := by
  refine ⟨fun ⟨_, stored⟩ => ?_⟩
  unfold State.recalled
  split
  · next m g hg => exact ⟨stored m (mem_images.mpr (.inl ⟨g, hg⟩)), stored⟩
  · exact ⟨storeSound_default, stored⟩

theorem raiseStarted (h : Stays s t) : Stays s t.raiseStarted := by
  unfold State.raiseStarted
  split
  · exact (h.raise _ _).raise _ _
  · exact h.raise _ _

theorem inPhase (s : State) (f : Phase) : Stays s { s with phase := f } := of_kept rfl

theorem completeWarm (s : State) : Stays s s.completeWarm := by
  unfold State.completeWarm
  exact (completeReset s).trans (inPhase _ _)

theorem completeRecall (s : State) : Stays s s.completeRecall := by
  have closed : Stays s (s.recalled.closeAll .scrapPower) := (recalled s).trans (of_records (.closeAll ..))
  unfold State.completeRecall State.restartStation
  exact raiseStarted (((closed.trans (modStation _ _)).trans (completeReset _)).trans (inPhase _ _))

/-! ## The warm reset and the power fall (R138, R151 to R153, R157) -/

theorem cutAllShort (s : State) : Stays s s.cutAllShort := foldl (fun t p => of_press (.cutShort (p := p) t)) _ s

theorem beginWarm (s : State) : Stays s s.beginWarm := by
  have closed : Stays s (s.cutAllShort.closeAll .scrapReset) := (cutAllShort s).trans (of_records (.closeAll ..))
  unfold State.beginWarm
  generalize s.cutAllShort.closeAll .scrapReset = t at closed
  exact closed.trans (of_kept rfl)

theorem stop (s : State) (fallen : Bool) : Stays s (s.stop fallen) := by
  unfold State.stop
  dsimp only
  split
  · exact (inPhase s _).trans (powerOn _)
  · exact inPhase s _

theorem powerFallOn (s : State) (final fallen : Bool) : Stays s (s.powerFallOn final fallen) := by
  unfold State.powerFallOn
  split
  · exact (inPhase s _).trans (startStore _)
  · exact stop s fallen

theorem beginPowerFall (s : State) : Stays s s.beginPowerFall := by
  have dark : Stays s s.outputsOff := of_kept rfl
  have cut := dark.trans (cutAllShort _)
  unfold State.beginPowerFall
  generalize s.outputsOff.cutAllShort = t at cut
  dsimp only
  have falling : Stays s
      ({ t with phase := .powerFall false false, link := s.link.powerFall }.modRetained fun r =>
        { r with periodic := none, storeAgain := false }) := cut.trans (of_kept rfl)
  split
  · exact falling
  · exact falling.trans (powerFallOn _ _ _)

theorem pfailRises (s : State) : Stays s s.pfailRises := by
  have level : Stays s { s with pfail := true } := of_kept rfl
  unfold State.pfailRises
  dsimp only
  split
  · exact level.trans (beginPowerFall _)
  · exact level.trans (beginPowerFall _)
  · exact ⟨fun ⟨_, stored⟩ => ⟨storeSound_default, stored⟩⟩
  all_goals exact level

theorem storeCompletes {f : InFlight} (h : s.retained.store = some f) : Stays s (s.storeCompletes f) := by
  have finished := finishStore h
  have again := finished.trans (storeOnceMore _)
  unfold State.storeCompletes
  dsimp only
  split
  · exact finished.trans (powerFallOn _ _ _)
  · exact again.pump
  · exact again.pump
  all_goals exact again

theorem later (s : State) : Stays s s.later := by
  unfold State.later
  split
  · exact of_kept rfl
  · exact refl s

end Stays

end Sys2Proof.Machine.RecipeStore

/-!
PROOF. Every step keeps every stored recipe, setting and gain in its range (O59): the owners of the requests, and every
command.
-/

namespace Sys2Proof.Machine.RecipeStore

open ChargeWeighing

/-! ## The owners of the requests -/

section Owners

variable (s : State)

theorem stays_ownMaskEvents (mode : Byte) (kinds : List Byte) : Stays s (ownMaskEvents mode kinds s) := by
  unfold ownMaskEvents
  split
  · exact ((Stays.refl s).modLink _).answer _ _
  all_goals exact .answered ..

theorem stays_ownGetSetting (ident : Byte) : Stays s (ownGetSetting ident s) := by
  unfold ownGetSetting
  split <;> exact .answered ..

theorem stays_ownSetSetting (ident : Byte) (value : Word) : Stays s (ownSetSetting ident value s) := by
  unfold ownSetSetting
  split
  · exact .answered ..
  · split
    · exact .answered ..
    · exact (Stays.writeSetting s _ _).answer _ _

theorem stays_ownSetTuning (zone kp ki : Byte) : Stays s (ownSetTuning zone kp ki s) := by
  unfold ownSetTuning
  split
  · exact .answered ..
  · exact (Stays.writeImage fun h => storeSound_tuning h _ kp ki).answer _ _

/-- A record is stored only when it has passed every check (R161, R164). -/
theorem stays_ownWriteRecipe (slot : Byte) (r : RawRecipe) : Stays s (ownWriteRecipe slot r s) := by
  unfold ownWriteRecipe
  split
  · exact .answered ..
  · split
    · exact .answered ..
    · split
      · exact .answered ..
      · split
        · exact .answered ..
        · next passed => exact (Stays.writeImage fun h => storeSound_recipe h _ passed).answer _ _

theorem stays_ownReadRecipe (slot : Byte) : Stays s (ownReadRecipe slot s) := by
  unfold ownReadRecipe
  split
  · exact .answered ..
  · split <;> exact .answered ..

theorem stays_ownAssignRecipe (press slot : Byte) : Stays s (ownAssignRecipe press slot s) := by
  unfold ownAssignRecipe
  split
  · repeat' split
    · exact .answered ..
    · exact .answered ..
    · exact (Stays.writeImage id).answer _ _
  · exact .answered ..
  · exact .answered ..

theorem stays_ownSetHeatMode (press mode : Byte) (standby : Half) (held : Byte) :
    Stays s (ownSetHeatMode press mode standby held s) := by
  unfold ownSetHeatMode
  split
  · split
    · exact .answered ..
    · exact (Stays.setMode ..).answer _ _
  · exact .answered ..
  · exact .answered ..

theorem stays_ownReadZones (press : Byte) : Stays s (ownReadZones press s) := by
  unfold ownReadZones
  split <;> exact .answered ..

theorem stays_ownClearZone (zone : Byte) : Stays s (ownClearZone zone s) := by
  unfold ownClearZone
  split
  · exact .answered ..
  · split
    · exact (Stays.modZone ..).answer _ _
    · exact .answered ..

theorem stays_ownDisableZone (zone : Byte) : Stays s (ownDisableZone zone s) := by
  unfold ownDisableZone
  split
  · exact .answered ..
  · exact (Stays.modZone ..).answer _ _

theorem stays_ownEnableZone (zone : Byte) : Stays s (ownEnableZone zone s) := by
  unfold ownEnableZone
  split
  · exact .answered ..
  · split
    · exact (Stays.modZone ..).answer _ _
    · exact .answered ..

theorem stays_ownPostOrder (orderTag press : Byte) : Stays s (ownPostOrder orderTag press s) := by
  unfold ownPostOrder
  split
  · exact .answered ..
  · split
    · exact .answered ..
    · exact (Stays.modStation s _).answer _ _

theorem stays_ownCancelOrder (orderTag : Byte) : Stays s (ownCancelOrder orderTag s) := by
  unfold ownCancelOrder
  split
  · exact (Stays.modStation s _).answer _ _
  · split
    · exact (Stays.modStation s _).answer _ _
    · split <;> exact .answered ..

theorem stays_ownZeroScale : Stays s (ownZeroScale s) := by
  unfold ownZeroScale
  split
  · exact .answered ..
  · exact (Stays.zeroCapture s).answer _ _

theorem stays_ownLoad (press : Byte) (serial : Word) : Stays s (ownLoad press serial s) := by
  unfold ownLoad
  split
  · exact .answered ..
  · split
    · exact .answered ..
    · exact (Stays.of_press (.loadTicket s _)).answer _ _
    · exact .answered ..

theorem stays_ownClose (press : Byte) : Stays s (ownClose press s) := by
  unfold ownClose
  split
  · exact .answered ..
  · split
    · exact .answered ..
    · exact (Stays.of_press ((PressOnly.startClosing s).trans (.settled _))).answer _ _

theorem stays_ownOpen (press : Byte) : Stays s (ownOpen press s) := by
  unfold ownOpen
  split
  · exact .answered ..
  · repeat' split
    · exact .answered ..
    · exact .answered ..
    · exact (Stays.of_press ((PressOnly.startToOpen s).trans (.settled _))).answer _ _

theorem stays_ownAbort (press : Byte) : Stays s (ownAbort press s) := by
  have moving (p : Fin 4) : Stays s (((s.markAborted p).startToOpen p).settled p) :=
    .of_press (((PressOnly.markAborted s).trans (.startToOpen _)).trans (.settled _))
  unfold ownAbort
  split
  · exact .answered ..
  · split
    · exact (Stays.of_press (.abortLoaded s)).answer _ _
    · exact (moving _).answer _ _
    · exact (moving _).answer _ _
    all_goals exact .answered ..

theorem stays_ownRelease (press : Byte) : Stays s (ownRelease press s) := by
  unfold ownRelease
  split
  · exact .answered ..
  · split
    · exact (Stays.of_press (.releasePart s)).answer _ _
    · exact .answered ..

theorem stays_ownClearFault (press : Byte) : Stays s (ownClearFault press s) := by
  unfold ownClearFault
  split
  · exact .answered ..
  · repeat' split
    · exact .answered ..
    · exact (Stays.of_press (.modPress s _)).answer _ _
    · exact .answered ..

theorem stays_ownReadPress (press : Byte) : Stays s (ownReadPress press s) := by
  unfold ownReadPress
  split <;> exact .answered ..

theorem stays_ownReadHistory (start : Half) (count : Byte) : Stays s (ownReadHistory start count s) := by
  unfold ownReadHistory
  split <;> exact .answered ..

theorem stays_ownCollect (n : Half) : Stays s (ownCollect n s) := by
  unfold ownCollect
  split
  · exact .answered ..
  · exact (Stays.writeImage id).historyTest.answer _ _

theorem stays_ownAnnotate (serial : Word) (result inspector : Byte) :
    Stays s (ownAnnotate serial result inspector s) := by
  unfold ownAnnotate
  split
  · exact .answered ..
  · split
    · exact .answered ..
    · repeat' split
      · exact .answered ..
      · exact .answered ..
      · exact (Stays.writeImage id).answer _ _

theorem stays_ownReadOpen (serial : Word) : Stays s (ownReadOpen serial s) := by
  unfold ownReadOpen
  split <;> exact .answered ..

theorem stays_ownStore : Stays s (ownStore s) := by
  unfold ownStore
  split
  · exact (Stays.modRetained fun _ hm => .inr hm).answer _ _
  · exact (Stays.startStore s).answer _ _

theorem stays_ownSnapshotCounters (press clear : Byte) : Stays s (ownSnapshotCounters press clear s) := by
  unfold ownSnapshotCounters
  split
  · exact (Stays.snapshot ..).answer _ _
  · exact .answered ..
  · exact .answered ..

theorem stays_ownReadCounters (press : Byte) : Stays s (ownReadCounters press s) := by
  unfold ownReadCounters
  split <;> exact .answered ..

end Owners

/-! ## Every command and every step -/

/-- The state a command answers. -/
theorem stays_of_next {s t u : State} (e : (.next u : Host.Outcome State Fault Refusal) = .next t) (h : Stays s u) :
    Stays s t := Host.Outcome.next.inj e ▸ h

/-- A request whose owner keeps the store sound. -/
theorem stays_request {own : State → State} (hown : ∀ u, Stays u (own u)) {s t : State} {kind tag : Byte}
    {body : List Byte} (e : (.next (s.serve kind tag body own) : Host.Outcome State Fault Refusal) = .next t) :
    Stays s t := stays_of_next e (.serve hown ..)

/-- An event of the plant that is an operation of one press. -/
theorem stays_pressEvent {p : Fin 4} {act : State → State} (hact : ∀ u, PressOnly p u (act u)) {s t : State}
    (e : (.next (plantEvent s act) : Host.Outcome State Fault Refusal) = .next t) : Stays s t :=
  stays_of_next e (.plantEvent (fun u => .of_press (hact u)) s)

/-- An event that acts under a condition, and otherwise changes nothing. -/
theorem stays_ite {c : Prop} [Decidable c] {s t u : State}
    (e : (.next (if c then u else s) : Host.Outcome State Fault Refusal) = .next t) (h : Stays s u) : Stays s t := by
  refine stays_of_next e ?_
  split
  · exact h
  · exact .refl s

theorem stays_transmitComplete {s t : State} (e : execTransmitComplete s = .next t) : Stays s t := by
  have sent : Stays s (s.modLink Link.sent) := (Stays.refl s).modLink _
  obtain rfl := Host.Outcome.next.inj e
  split
  · exact ((sent.trans (.beginWarm _)).trans (.completeWarm _)).pump
  · exact sent.pump

theorem stays_guardOkFall {s t : State} (e : execGuardOkFall s = .next t) : Stays s t := by
  have low : Stays s { s with lines := { s.lines with guardOk := false } } := .of_kept rfl
  obtain rfl := Host.Outcome.next.inj e
  split
  · exact (low.trans (.guardFalls _)).pump
  · exact low

theorem stays_storeComplete {s t : State} (e : execStoreComplete s = .next t) : Stays s t := by
  obtain rfl := Host.Outcome.next.inj e
  split
  · next h => exact .storeCompletes h
  · exact .refl s

theorem stays_exec (c : Instr) {s t : State} (e : exec c s = .next t) : Stays s t :=
  match c with
  | .identify _ => stays_request (own := ownIdentify) (fun u => .answered u _ _) e
  | .cellStatus _ => stays_request (own := ownCellStatus) (fun u => .answered u _ _) e
  | .restart _ => stays_request (own := ownRestart) (fun u => (Stays.answered u _ _).modLink _) e
  | .setClock _ seconds =>
    stays_request (own := ownSetClock seconds) (fun u => .answer (s := u) (.of_kept (by rfl)) _ _) e
  | .readClock _ => stays_request (own := ownReadClock) (fun u => .answered u _ _) e
  | .readEvents _ => stays_request (own := ownReadEvents) (fun u => ((Stays.refl u).modLink _).answer _ _) e
  | .maskEvents _ mode kinds => stays_request (fun u => stays_ownMaskEvents u mode kinds) e
  | .getSetting _ ident => stays_request (fun u => stays_ownGetSetting u ident) e
  | .setSetting _ ident value => stays_request (fun u => stays_ownSetSetting u ident value) e
  | .setTuning _ zone kp ki => stays_request (fun u => stays_ownSetTuning u zone kp ki) e
  | .writeRecipe _ slot recipe => stays_request (fun u => stays_ownWriteRecipe u slot recipe) e
  | .readRecipe _ slot => stays_request (fun u => stays_ownReadRecipe u slot) e
  | .assignRecipe _ press slot => stays_request (fun u => stays_ownAssignRecipe u press slot) e
  | .setHeatMode _ press mode standby held =>
    stays_request (fun u => stays_ownSetHeatMode u press mode standby held) e
  | .readZones _ press => stays_request (fun u => stays_ownReadZones u press) e
  | .clearZone _ zone => stays_request (fun u => stays_ownClearZone u zone) e
  | .disableZone _ zone => stays_request (fun u => stays_ownDisableZone u zone) e
  | .enableZone _ zone => stays_request (fun u => stays_ownEnableZone u zone) e
  | .postOrder _ orderTag press => stays_request (fun u => stays_ownPostOrder u orderTag press) e
  | .cancelOrder _ orderTag => stays_request (fun u => stays_ownCancelOrder u orderTag) e
  | .zeroScale _ => stays_request stays_ownZeroScale e
  | .readScale _ => stays_request (own := ownReadScale) (fun u => .answered u _ _) e
  | .load _ press serial => stays_request (fun u => stays_ownLoad u press serial) e
  | .close _ press => stays_request (fun u => stays_ownClose u press) e
  | .openPress _ press => stays_request (fun u => stays_ownOpen u press) e
  | .abort _ press => stays_request (fun u => stays_ownAbort u press) e
  | .release _ press => stays_request (fun u => stays_ownRelease u press) e
  | .clearFault _ press => stays_request (fun u => stays_ownClearFault u press) e
  | .readPress _ press => stays_request (fun u => stays_ownReadPress u press) e
  | .readHistory _ start count => stays_request (fun u => stays_ownReadHistory u start count) e
  | .collect _ n => stays_request (fun u => stays_ownCollect u n) e
  | .annotate _ serial result inspector => stays_request (fun u => stays_ownAnnotate u serial result inspector) e
  | .readOpen _ serial => stays_request (fun u => stays_ownReadOpen u serial) e
  | .store _ => stays_request stays_ownStore e
  | .snapshotCounters _ press clear => stays_request (fun u => stays_ownSnapshotCounters u press clear) e
  | .readCounters _ press => stays_request (fun u => stays_ownReadCounters u press) e
  | .goodFrame _ _ _ => stays_of_next e (.lineEvent (fun u => .hear u _) s)
  | .badCrcFrame _ _ _ _ => stays_of_next e (.lineEvent (fun u => .hear u _) s)
  | .overLengthFrame _ _ _ _ => stays_of_next e (.lineEvent (fun u => .hear u _) s)
  | .interbyteGapTimeout bytes =>
    stays_of_next e (.lineEvent (fun u => (Stays.hear u bytes).abandonFrame.modLink _) s)
  | .framingError bytes => stays_of_next e (.lineEvent (fun u => (Stays.hear u bytes).abandonFrame) s)
  | .transmitComplete => stays_transmitComplete e
  | .thermocoupleReading zone reading => stays_ite e (Stays.takeReading s zone reading).pump
  | .heatFrameBoundary => stays_of_next e (.plantEvent .boundary s)
  | .heaterSlot => stays_ite e (.of_kept (by rfl))
  | .goodSample _ =>
    stays_of_next e (.plantEvent (fun u => (Stays.modStation u _).trans (.onSample _)) s)
  | .faultedSample => stays_of_next e (.plantEvent .faultSample s)
  | .settleTimeout => stays_of_next e (.plantEvent .settleExpires s)
  | .ticketPotLifeExpiry _ serial => stays_pressEvent (fun u => .expireTicket u serial.toNat) e
  | .boundPotLifeExpiry _ => stays_pressEvent .expireBound e
  | .curingConditionMet _ _ _ => stays_of_next e (.inputEvent ..)
  | .pressureDip _ _ _ _ => stays_of_next e (.inputEvent ..)
  | .guardOkFall => stays_guardOkFall e
  | .openLimitMet _ _ _ => stays_of_next e (.inputEvent ..)
  | .ejectOutMet _ _ _ => stays_of_next e (.inputEvent ..)
  | .ejectHomeMet _ _ _ => stays_of_next e (.inputEvent ..)
  | .openLimitDrift _ _ _ => stays_of_next e (.inputEvent ..)
  | .keyChange _ => stays_of_next e (.of_kept (by rfl))
  | .closeTimerExpiry _ => stays_pressEvent .closeExpires e
  | .openTimerExpiry _ => stays_pressEvent .openExpires e
  | .strokeTimerExpiry _ => stays_pressEvent .strokeExpires e
  | .minimumOpenExpiry _ => stays_pressEvent .minOpenElapses e
  | .storeComplete => stays_storeComplete e
  | .periodicStoreExpiry => stays_of_next e (.plantEvent .periodicExpires s)
  | .pfailRise => stays_of_next e (.pfailRises s)
  | .powerOnReset pfail => stays_of_next e (.powerOnReset s pfail)
  | .recallComplete => stays_ite e (Stays.completeRecall s).pump
  | .resetLineLow => stays_ite e (.beginWarm s)
  | .resetLineHigh => stays_ite e (Stays.completeWarm s).pump
  | .clockTick => stays_ite e (.of_kept (by rfl))
  | .pressureDipEnd _ _ _ => stays_of_next e (.inputEvent ..)
  | .supplyLost => stays_of_next e ((Stays.withoutSupply s).trans (.powerOnValues ..))

/-- Settles O59: a step is a command on the rest of the queue, or a millisecond, which changes timers only. -/
theorem everyStepKeepsRecipesAndSettingsInRange : Obligations.EveryStepKeepsRecipesAndSettingsInRange := by
  unfold Obligations.EveryStepKeepsRecipesAndSettingsInRange
  intro s t h e
  unfold step at e
  split at e
  · exact (stays_of_next e (.later s)).sound h
  · next c rest _ => exact (stays_exec c (s := { s with pending := rest }) e).sound h

end Sys2Proof.Machine.RecipeStore

/-!
PROOF. The cell clock (O13) and the snapshots of the production counters (O14).
-/

namespace Sys2Proof.Machine.CountersAndClock

open ChargeWeighing

/-! ## The clock (R184 to R186) -/

theorem clockRuns_iff (f : Phase) : f.clockRuns = true ↔ f ≠ .stopped ∧ f ≠ .unpowered := by
  cases f <;> simp [Phase.clockRuns]

/-- The wrap past the largest value is the remainder of the model (R184). -/
theorem tick_eq (c : Clock) :
    c.tick = ⟨if c.value = 4294967295 then 0 else (c.value + 1) % 4294967296, c.set, 0⟩ := by
  have wraps : (c.value + 1) % 4294967296 =
      if c.value = 4294967295 then 0 else (c.value + 1) % 4294967296 := by
    split <;> omega
  rw [← wraps, Clock.tick]

/-- Settles O13: an owner that sets the clock, one that only answers, and the tick by the phase. -/
theorem theClockIsSetReadAndCounts : Obligations.TheClockIsSetReadAndCounts := by
  unfold Obligations.TheClockIsSetReadAndCounts
  refine ⟨⟨fun s tag n h => ?_, fun s tag h => ?_⟩, fun s => ⟨fun runs powered => ?_, fun off => ?_⟩⟩
  · exact congrArg Host.Outcome.next
      (serve_aside (u := { s with clock := ⟨n.toNat, true, 0⟩ }) h rfl rfl rfl rfl)
  · exact congrArg Host.Outcome.next (State.serve_answer h rfl)
  · rw [← tick_eq]
    exact congrArg Host.Outcome.next (if_pos ((clockRuns_iff _).mpr ⟨runs, powered⟩))
  · refine congrArg Host.Outcome.next (if_neg fun counts => ?_)
    obtain ⟨runs, powered⟩ := (clockRuns_iff _).mp counts
    exact off.elim runs powered

/-! ## The fields of SNAPSHOT_COUNTERS (R180, R205) -/

theorem yesNo_eq {b : Byte} (h : b.toNat ≤ 1) : yesNo b = some (decide (b.toNat = 1)) := by
  unfold yesNo
  split
  · next no => simp [no]
  · next yes =>
    have one : b.toNat = 1 := by omega
    simp [one]

theorem yesNo_none {b : Byte} (h : 1 < b.toNat) : yesNo b = none :=
  Option.isNone_iff_eq_none.mp ((RecipeStore.yesNo_none_iff b).mpr h)

theorem snapshotTarget_none {b : Byte} (h : 4 < b.toNat) : snapshotTarget b = none := by
  rw [snapshotTarget, pressNo_none (by omega)]
  exact if_neg (by omega)

/-- A press byte that is accepted names its own press, and 4 names them all. -/
theorem snapshotTarget_some {b : Byte} (h : b.toNat ≤ 4) :
    ∃ target, snapshotTarget b = some target ∧
      ∀ p : Fin 4, snapshotNames target p = true ↔ b.toNat = p.val ∨ b.toNat = 4 := by
  by_cases all : b.toNat = 4
  · refine ⟨none, ?_, fun p => by simp [snapshotNames, all]⟩
    rw [snapshotTarget, pressNo_none (by omega)]
    exact if_pos all
  · have one : pressNo b = some ⟨b.toNat, by omega⟩ := pressNo_eq rfl
    refine ⟨some ⟨b.toNat, by omega⟩, by rw [snapshotTarget, one], fun p => ?_⟩
    simp [snapshotNames, Fin.ext_iff, all, eq_comm]

theorem ownSnapshotCounters_badValue {press clear : Byte} (h : 4 < press.toNat ∨ 1 < clear.toNat) (s : State) :
    ownSnapshotCounters press clear s = s.answer .badValue [] := by
  unfold ownSnapshotCounters
  split
  · next target cleared named yes =>
    rcases h with high | high
    · rw [snapshotTarget_none high] at named; cases named
    · rw [yesNo_none high] at yes; cases yes
  · rfl
  · rfl

theorem ownSnapshotCounters_taken {press clear : Byte} {target : Option (Fin 4)}
    (named : snapshotTarget press = some target) (h : clear.toNat ≤ 1) (s : State) :
    ownSnapshotCounters press clear s = (s.snapshot target (decide (clear.toNat = 1))).answer .ok [] := by
  rw [ownSnapshotCounters, named, yesNo_eq h]

/-! ## The copy and the clearing (R180) -/

/-- A snapshot copies what stood before it clears: the snapshots are those of the copy alone. -/
theorem snapshot_get (s : State) (target : Option (Fin 4)) (cleared : Bool) (p : Fin 4) :
    (s.snapshot target cleared).snapshots.get p =
      if snapshotNames target p then ⟨s.image.counters.get p, true, s.clock.stamp, cleared⟩
      else s.snapshots.get p := by
  have copied : (s.snapshot target cleared).snapshots = (s.copyCounters target cleared).snapshots := by
    cases cleared <;> rfl
  rw [copied]
  exact Tab.get_mapWith ..

theorem snapshot_counters_get (s : State) (target : Option (Fin 4)) (cleared : Bool) (p : Fin 4) :
    (s.snapshot target cleared).image.counters.get p =
      if snapshotNames target p ∧ cleared then Counters.zero else s.image.counters.get p := by
  cases cleared with
  | false => simp [State.snapshot, State.copyCounters]
  | true => simp [State.snapshot, State.copyCounters, State.clearCounters]

/-- Nothing but snapshots, live counters and the generation is written, and the generation only by a clearing. -/
theorem snapshot_frame (s : State) (target : Option (Fin 4)) (cleared : Bool) :
    s.snapshot target cleared =
      { s with
        snapshots := (s.snapshot target cleared).snapshots,
        image := { s.image with counters := (s.snapshot target cleared).image.counters },
        retained :=
          { s.retained with
            generation := if cleared then nextGeneration s.retained.generation else s.retained.generation } } := by
  cases cleared <;> rfl

/-- SNAPSHOT_COUNTERS served is one change with a clearing, and no change without. -/
theorem serve_snapshot {s : State} {tag press clear : Byte} (h : s.holds 0x35 tag [press, clear])
    {target : Option (Fin 4)} (named : snapshotTarget press = some target) (yes : clear.toNat ≤ 1) :
    s.serve 0x35 tag [press, clear] (ownSnapshotCounters press clear) =
      (s.snapshot target (decide (clear.toNat = 1))).repliedTo 0x35 tag [press, clear] .ok [] := by
  have taken := ownSnapshotCounters_taken named yes s
  generalize decide (clear.toNat = 1) = cleared at taken ⊢
  cases cleared with
  | false => exact serve_aside h taken rfl rfl rfl
  | true => exact RecipeStore.serve_written h taken rfl rfl rfl

/-! ## READ_COUNTERS (R182) -/

theorem ownReadCounters_press {press : Byte} {p : Fin 4} (h : press.toNat = p.val) (s : State) :
    ownReadCounters press s = s.answer .ok (s.snapshots.get p).bytes := by
  rw [ownReadCounters, pressNo_eq h]

/-- Settles O14: the refusals of both requests, the snapshot taken, and the snapshot read. -/
theorem countersAreSnapshotAndRead : Obligations.CountersAreSnapshotAndRead := by
  unfold Obligations.CountersAreSnapshotAndRead
  refine ⟨fun s tag press clear h => ⟨fun bad => ?_, fun upTo yes => ?_⟩,
    fun s tag press h => ⟨fun high => ?_, fun p hp => ?_⟩⟩
  · exact congrArg Host.Outcome.next (State.serve_answer h (ownSnapshotCounters_badValue bad s))
  · obtain ⟨target, named, names⟩ := snapshotTarget_some upTo
    let t := s.snapshot target (decide (clear.toNat = 1))
    refine ⟨t.snapshots, t.image.counters, fun p => ?_, fun p => ?_,
      (congrArg Host.Outcome.next (serve_snapshot h named yes)).trans ?_⟩
    · rw [snapshot_get]
      exact if_congr (names p) rfl rfl
    · rw [snapshot_counters_get]
      exact if_congr (and_congr (names p) decide_eq_true_iff) rfl rfl
    · rw [snapshot_frame]
      simp only [decide_eq_true_eq, nextGeneration, t]
  · refine congrArg Host.Outcome.next (State.serve_answer h ?_)
    rw [ownReadCounters, pressNo_none high]
  · exact congrArg Host.Outcome.next (State.serve_answer h (ownReadCounters_press hp s))

end Sys2Proof.Machine.CountersAndClock

/-!
PROOF. What a command can do to the Link Port's sets and replies, said once: raising events leaves the request in hand
and its reply alone, and an owner answers the request that waits for it (R192, R194 to R198).
-/

namespace Sys2Proof.Machine.HostLink

open ChargeWeighing PressCycle

/-! ## Sets of kinds in code order (R196, R197) -/

theorem mem_all (k : EventKind) : k ∈ EventKind.all := by cases k <;> decide

/-- What is picked out of the list of all kinds is in code order, each kind once. -/
theorem canonicalKinds_filter (p : EventKind → Bool) : canonicalKinds (EventKind.all.filter p) := by
  unfold canonicalKinds
  refine List.filter_congr fun k _ => ?_
  simp [mem_all]

theorem canonicalKinds_nil : canonicalKinds [] := canonicalKinds_filter fun _ => false

theorem canonicalKinds_all : canonicalKinds EventKind.all := canonicalKinds_filter fun _ => true

theorem canonicalKinds_removeKinds {set : List EventKind} (h : canonicalKinds set) (ks : List EventKind) :
    canonicalKinds (removeKinds ks set) := by
  unfold canonicalKinds at h
  unfold removeKinds
  rw [h, List.filter_filter]
  exact canonicalKinds_filter _

theorem canonicalKinds_fill (i : Fin 6) : canonicalKinds ((Tab.fill [] : Tab (List EventKind) 6).get i) := by
  rw [Tab.get_fill]
  exact canonicalKinds_nil

/-! ## The two halves of the invariant -/

/-- The sets in code order, and a waiting notice has set the flag (R196 to R198). -/
structure Listed (l : Link) : Prop where
  pending : ∀ i, canonicalKinds (l.pending.get i)
  mask : canonicalKinds l.mask
  notice : l.noticeWaiting = true → l.notice = true

/-- The request in hand is past its owner. -/
def Answered (l : Link) : Prop := ∃ h, l.inHand = some h ∧ h.stage ≠ .handed

/-- The request in hand waits for its owner. -/
def Awaits (l : Link) : Prop := ∃ h, l.inHand = some h ∧ h.stage = .handed

/-- A reply that waits or is being sent is that of an answered request in hand, and there is one of them at most
(R192, R195). -/
structure Replying (l : Link) : Prop where
  waiting : l.reply.isSome → Answered l
  sending : ∀ x, l.transmission = some x → x.what = .reply → l.reply = none ∧ Answered l

theorem sound_iff (l : Link) : l.sound ↔ l.discarded ≤ 65535 ∧ Listed l ∧ Replying l :=
  ⟨fun ⟨counted, pending, mask, notice, waiting, sending⟩ => ⟨counted, ⟨pending, mask, notice⟩, ⟨waiting, sending⟩⟩,
    fun ⟨counted, ⟨pending, mask, notice⟩, ⟨waiting, sending⟩⟩ => ⟨counted, pending, mask, notice, waiting, sending⟩⟩

theorem not_answered {l : Link} (h : l.inHand = none ∨ Awaits l) : ¬ Answered l := by
  rintro ⟨g, hg, past⟩
  rcases h with free | ⟨g', hg', stage⟩
  · rw [free] at hg; cases hg
  · rw [hg'] at hg; cases hg; exact past stage

/-- While no request in hand is past its owner, no reply waits and none is being sent. -/
theorem Replying.quiet {l : Link} (h : Replying l) (free : ¬ Answered l) :
    l.reply = none ∧ ∀ x, l.transmission = some x → x.what ≠ .reply := by
  refine ⟨?_, fun x hx sent => free (h.sending x hx sent).2⟩
  exact Option.not_isSome_iff_eq_none.mp fun some => free (h.waiting some)

/-- With no reply waiting and none being sent nothing is asked of the request in hand. -/
theorem Replying.of_quiet {l : Link} (reply : l.reply = none)
    (sending : ∀ x, l.transmission = some x → x.what ≠ .reply) : Replying l :=
  ⟨fun some => by simp [reply] at some, fun x hx sent => (sending x hx sent).elim⟩

/-! ## Raising events (R196, R198) -/

/-- What a raised event leaves alone: the request in hand, what is sent, and the count of discarded frames. -/
def handling (l : Link) : Option InHand × Option Transmission × Option Frame × Nat :=
  (l.inHand, l.transmission, l.reply, l.discarded)

/-- From `s` to `t` the Link Port changes in its sets and its notice only, and these stay in form. -/
structure Raises (s t : State) : Prop where
  handling : handling t.link = handling s.link
  listed : Listed s.link → Listed t.link

theorem listed_offerNotice {l : Link} (h : Listed l) : Listed l.offerNotice := by
  unfold Link.offerNotice
  split
  · exact h
  · exact ⟨h.pending, h.mask, fun _ => rfl⟩

theorem handling_offerNotice (l : Link) : handling l.offerNotice = handling l := by
  unfold Link.offerNotice
  split <;> rfl

namespace Raises

variable {s t u : State} {p : Fin 4}

theorem refl (s : State) : Raises s s := ⟨rfl, id⟩

theorem trans (h : Raises s t) (k : Raises t u) : Raises s u := ⟨k.handling.trans h.handling, k.listed ∘ h.listed⟩

/-- An operation that leaves the Link Port alone. -/
theorem of_link (h : t.link = s.link) : Raises s t := ⟨by rw [h], fun hs => by rw [h]; exact hs⟩

theorem of_records (h : RecordOnly s t) : Raises s t := of_link (by rw [h.eq])

theorem raised (s : State) (src : Source) (k : EventKind) : Raises s (s.raise src k) := by
  have added (h : Listed s.link) : Listed { s.link with pending := s.link.pending.modify src.index (addKind k) } := by
    refine ⟨fun i => ?_, h.mask, h.notice⟩
    rw [Tab.get_modify]
    split
    · exact canonicalKinds_filter _
    · exact h.pending i
  unfold State.raise
  dsimp only
  split
  · exact ⟨handling_offerNotice _, fun h => listed_offerNotice (added h)⟩
  · exact ⟨rfl, added⟩

theorem raise (h : Raises s t) (src : Source) (k : EventKind) : Raises s (t.raise src k) := h.trans (raised t src k)

theorem oneChange (h : Raises s t) : Raises s (oneChange u t) := h.trans (of_link (oneChange_link u t))

theorem foldl {α : Type} {f : State → α → State} (hf : ∀ t a, Raises t (f t a)) (l : List α) (s : State) :
    Raises s (l.foldl f s) := by
  induction l generalizing s with
  | nil => exact refl s
  | cons a l ih => exact (hf s a).trans (ih _)

theorem historyTest (h : Raises s t) : Raises s t.historyTest := by
  refine h.trans ?_
  unfold State.historyTest
  split
  · split
    · exact refl t
    · exact (of_link rfl : Raises t { t with historyRaised := true }).raise _ _
  · exact of_link rfl

theorem modPress (s : State) (f : Press → Press) : Raises s (s.modPress p f) := of_link rfl

theorem writeBound (s : State) (f : OpenRecord → OpenRecord) : Raises s (s.writeBound p f) :=
  of_records (RecordOnly.writeBound ..)

/-! ### The press cycle (R71 to R97) -/

theorem closeBound (s : State) (d : Disposition) (c : Option PressFault) : Raises s (s.closeBound p d c) := by
  unfold State.closeBound
  split
  · exact (of_records (RecordOnly.closeRecord ..)).trans (modPress _ _)
  · exact refl s

theorem fixVerdict (s : State) : Raises s (s.fixVerdict p) := (modPress s _).trans (writeBound _ _)

theorem leaveCuring (s : State) : Raises s (s.leaveCuring p) := by
  have marked : Raises s (s.setOpenMark p) := of_link rfl
  unfold State.leaveCuring
  split
  · exact marked.trans (fixVerdict _)
  · exact refl s

theorem enterFault (s : State) (c : PressFault) : Raises s (s.enterFault p c) :=
  (((leaveCuring s).trans (modPress _ _)).trans (closeBound _ _ _)).raise _ _

theorem enterCuring (s : State) : Raises s (s.enterCuring p) := by
  have marked (t : State) : Raises t (t.setCloseMark p) := of_link rfl
  exact ((modPress s _).trans (marked _)).trans (writeBound _ _)

theorem beginDip (s : State) : Raises s (s.beginDip p) := ((modPress s _).trans (writeBound _ _)).raise _ _

theorem startToOpen (s : State) : Raises s (s.startToOpen p) := (leaveCuring s).trans (modPress _ _)

theorem enterUnload (s : State) : Raises s (s.enterUnload p) := (modPress s _).raise _ _

theorem openLimitReached (s : State) : Raises s (s.openLimitReached p) := by
  unfold State.openLimitReached
  dsimp only
  split
  · exact (modPress s _).trans (enterUnload _)
  · exact of_link rfl

theorem endStroke (s : State) (k : Nat) : Raises s (s.endStroke p k) := by
  have written (free : Bool) :
      Raises s ((s.modPress p fun x => { x with strokeTimer := none }).writeDemould p k free) :=
    (modPress s _).trans (writeBound _ _)
  have counted (t : State) : Raises t (t.bumpStuck p) := of_link rfl
  unfold State.endStroke
  dsimp only
  split
  · exact (written true).trans (enterUnload _)
  · split
    · exact of_link rfl
    · exact ((written false).trans (counted _)).trans (enterFault _ _)

/-- Whatever condition the press waits for, meeting it raises events at most (R71). -/
theorem pressCondition (h : s.pressCondition p = some t) : Raises s t := by
  unfold State.pressCondition at h
  dsimp only at h
  split at h
  case h_1 => split at h <;> cases h; exact enterCuring s
  case h_2 =>
    split at h
    · split at h <;> cases h; exact modPress s _
    · split at h <;> cases h; exact beginDip s
  case h_3 => split at h <;> cases h; exact openLimitReached s
  case h_4 =>
    split at h
    · split at h <;> cases h; exact modPress s _
    · split at h <;> cases h; exact endStroke s _
    · cases h
  case h_8 => cases h
  all_goals split at h <;> cases h; exact enterFault s _

theorem settled (s : State) : Raises s (s.settled p) :=
  settled_induction (P := Raises s) (fun _ _ h e => h.trans (pressCondition e)) (refl s)

theorem loadTicket (s : State) (x : Ticket) : Raises s (s.loadTicket p x) :=
  (of_records (RecordOnly.writeLoadTime ..)).trans (modPress _ _)

theorem startClosing (s : State) : Raises s (s.startClosing p) :=
  (of_records (RecordOnly.bumpCycles ..)).trans (modPress _ _)

/-! ### Pot life, the guard and the timers (R72, R75, R76, R81, R83, R90, R93) -/

theorem expireTicket (s : State) (n : Nat) : Raises s (s.expireTicket p n) := by
  unfold State.expireTicket
  split
  · exact ((of_records (RecordOnly.closeRecord ..)).trans (modPress _ _)).raise _ _
  · exact refl s

theorem expireBound (s : State) : Raises s (s.expireBound p) := by
  unfold State.expireBound
  split
  · exact ((writeBound s _).trans (modPress _ _)).raise _ _
  · exact refl s

theorem cutStroke (s : State) : Raises s (s.cutStroke p) := by
  unfold State.cutStroke
  split
  · exact writeBound s _
  · exact refl s

theorem guardAt (s : State) : Raises s (s.guardAt p) := by
  unfold State.guardAt
  split
  · exact (cutStroke s).trans (enterFault _ _)
  · exact refl s

theorem guardFalls (s : State) : Raises s s.guardFalls := by
  have low : Raises s { s with inputs := { s.inputs with guardOk := false } } := of_link rfl
  exact low.trans (foldl (fun _ _ => (guardAt _).oneChange) _ _)

theorem closeExpires (s : State) : Raises s (s.closeExpires p) := by
  unfold State.closeExpires
  split
  · exact enterFault s _
  · exact refl s

theorem openExpires (s : State) : Raises s (s.openExpires p) := by
  unfold State.openExpires
  split
  · exact enterFault s _
  · exact refl s

theorem strokeExpires (s : State) : Raises s (s.strokeExpires p) := by
  unfold State.strokeExpires
  split
  · exact (cutStroke s).trans (enterFault _ _)
  · exact refl s

/-! ### The boundary (R4, R28, R105) -/

theorem cutShort (s : State) : Raises s (s.cutShort p) := by
  unfold State.cutShort
  split
  · exact fixVerdict s
  · exact cutStroke s

theorem countFrame (s : State) (r : Recipe) : Raises s (s.countFrame p r) := by
  have told (t : State) (b : Bool) (k : EventKind) : Raises t (if b then t.raise (.press p) k else t) := by
    split
    · exact raised t _ _
    · exact refl t
  unfold State.countFrame
  dsimp only
  exact ((((told s _ _).trans (told _ _ _)).trans (told _ _ _)).trans (modPress _ _)).trans (writeBound _ _)

theorem cureBoundary (s : State) : Raises s (s.cureBoundary p) := by
  unfold State.cureBoundary
  split
  · split
    · dsimp only
      split
      · exact ((countFrame s _).trans (startToOpen _)).trans (settled _)
      · exact countFrame s _
    · exact refl s
  · exact refl s

theorem raiseZoneFault (s : State) (z : Fin 24) (found : Option ZoneFault) : Raises s (s.raiseZoneFault z found) := by
  unfold State.raiseZoneFault
  split
  · exact raised s _ _
  · exact refl s

theorem takeReading (s : State) (z : Fin 24) (x : Reading) : Raises s (s.takeReading z x) := by
  have read (f : Zone → Zone) : Raises s (s.modZone z f) := of_link rfl
  exact (read _).trans (raiseZoneFault _ _ _)

theorem readiness (s : State) (p : Fin 4) : Raises s (s.readiness p) := by
  have marked (b : Bool) : Raises s (s.modHeat p fun h => { h with ready := b }) := of_link rfl
  unfold State.readiness
  dsimp only
  split
  · exact (marked _).raise _ _
  · exact marked _

theorem zoneBoundary (s : State) : Raises s s.zoneBoundary := by
  have set : Raises s s.boundaryReadings.boundarySetpoints := of_link rfl
  have faults (t : State) : Raises t t.boundaryFaults := by
    have tested (f : Fin 24 → Zone → Zone) : Raises t { t with zones := t.zones.mapWith f } := of_link rfl
    exact (tested _).trans (foldl (fun u i => raiseZoneFault u i _) _ _)
  have demands (t : State) : Raises t t.boundaryDemands := of_link rfl
  exact ((set.trans (faults _)).trans (demands _)).trans (foldl readiness _ _)

theorem allocate (s : State) : Raises s s.allocate := by
  have charged (zones : Tab Zone 24) (t : State) (p : Fin 4) : Raises t (t.chargeShortfall zones p) := by
    unfold State.chargeShortfall
    dsimp only
    split
    · exact refl t
    · split
      · exact (raised t _ _).trans (writeBound _ _)
      · exact raised t _ _
  have granted (zones : Tab Zone 24) (alloc : Alloc) : Raises s { s with zones := zones, alloc := alloc } := of_link rfl
  exact (granted _ _).trans (foldl (charged _) _ _)

theorem boundary (s : State) : Raises s s.boundary :=
  ((zoneBoundary s).trans (allocate _)).trans (foldl (fun t _ => cureBoundary t) _ _)

theorem setMode (s : State) (p : Fin 4) (m : HeatMode) (standby : Int) (held : Tab Bool 6) :
    Raises s (s.setMode p m standby held) := of_link (by rw [setMode_eq])

/-! ### The scale (R43 to R65) -/

theorem modStation (s : State) (f : Station → Station) : Raises s (s.modStation f) := of_link rfl

theorem zeroCapture (s : State) : Raises s s.zeroCapture := (modStation s _).raise _ _

theorem autoZero (s : State) (range : Nat) : Raises s (s.autoZero range) := by
  unfold State.autoZero
  split
  · exact zeroCapture s
  · exact refl s

theorem takeCheck (s : State) : Raises s s.takeCheck := by
  rcases takeCheck_cases s with e | ⟨o, e, -⟩
  · rw [e]; exact refl s
  · rw [e]; exact modStation s _

/-- A capture raises CHARGE_ACCEPTED or CHARGE_REJECTED, and ZERO_DUE and HISTORY_HIGH where they are due. -/
theorem capture (s : State) : Raises s s.capture := by
  have judged (q : Record) (r : Recipe) : Raises s (s.judgeCharge q r) := by
    unfold State.judgeCharge
    split
    · refine raise (of_link ?_) _ _
      rfl
    · refine raise (of_link ?_) _ _
      rfl
  have obliged (t : State) : Raises t t.zeroObligation := by
    unfold State.zeroObligation
    split
    · exact (modStation t _).raise _ _
    · exact refl t
  unfold State.capture
  split
  · exact refl s
  · exact (((judged _ _).trans (modStation _ _)).trans (obliged _)).historyTest

theorem onSample (s : State) : Raises s s.onSample := by
  unfold State.onSample
  split
  case h_1 => exact autoZero s _
  case h_2 =>
    refine trans ?_ (takeCheck _)
    split
    · exact autoZero s _
    · exact refl s
  case h_4 =>
    split
    · exact modStation s _
    · split
      · exact capture s
      · exact refl s
  case h_6 => exact refl s
  all_goals
    split
    · exact modStation s _
    · exact refl s

theorem faultSample (s : State) : Raises s s.faultSample := by
  unfold State.faultSample
  dsimp only
  split
  · exact modStation s _
  · exact (modStation s _).raise _ _

theorem settleExpires (s : State) : Raises s s.settleExpires := by
  unfold State.settleExpires
  split
  · exact (modStation s _).raise _ _
  · exact refl s

/-! ### Settings, counters and stores (R147 to R150, R170, R180) -/

theorem writeSetting (s : State) (n : Nat) (v : Int) : Raises s (s.writeSetting n v) := by
  have written : Raises s (s.writeImage fun m => { m with settings := m.settings.put n (settingStored n v) }) :=
    of_link rfl
  unfold State.writeSetting State.settingActs
  split
  · exact of_link rfl
  · split
    · exact written.historyTest
    · exact written

theorem snapshot (s : State) (target : Option (Fin 4)) (cleared : Bool) : Raises s (s.snapshot target cleared) := by
  unfold State.snapshot
  dsimp only
  split <;> exact of_link rfl

theorem finishStore (s : State) (f : InFlight) : Raises s (s.finishStore f) := by
  refine raise (of_link ?_) _ _
  rfl

theorem storeOnceMore (s : State) : Raises s s.storeOnceMore := by
  unfold State.storeOnceMore
  split
  · exact of_link rfl
  · exact refl s

theorem periodicExpires (s : State) : Raises s s.periodicExpires := by
  unfold State.periodicExpires
  dsimp only
  split
  · split <;> exact of_link rfl
  · exact refl s

/-! ### A reset that completes (R99, R133, R155, R156) -/

theorem derivePress (s : State) (p : Fin 4) : Raises s (s.derivePress p) := by
  unfold State.derivePress
  split
  · exact modPress s _
  · exact (modPress s _).raise _ _

theorem completeReset (s : State) : Raises s s.completeReset := by
  have lines : Raises s { s with inputs := s.lines, historyRaised := false } := of_link rfl
  have derived := lines.trans (foldl derivePress (List.finRange 4) _)
  unfold State.completeReset
  generalize (List.finRange 4).foldl State.derivePress { s with inputs := s.lines, historyRaised := false } = t
    at derived
  have tested := derived.historyTest
  dsimp only
  generalize t.historyTest = u at tested
  exact tested.trans ⟨rfl, fun h => ⟨h.pending, h.mask, h.notice⟩⟩

theorem raiseStarted (s : State) : Raises s s.raiseStarted := by
  unfold State.raiseStarted
  split
  · exact (raised s _ _).raise _ _
  · exact raised s _ _

theorem completeWarm (s : State) : Raises s s.completeWarm := (completeReset s).trans (of_link rfl)

theorem completeRecall (s : State) : Raises s s.completeRecall := by
  have found : Raises s s.recalled := by
    unfold State.recalled
    split <;> exact of_link rfl
  have closed : Raises s (s.recalled.closeAll .scrapPower).restartStation :=
    (found.trans (of_records (.closeAll ..))).trans (modStation _ _)
  have started : Raises s { (s.recalled.closeAll .scrapPower).restartStation.completeReset with phase := .running } :=
    (closed.trans (completeReset _)).trans (of_link rfl)
  exact started.trans (raiseStarted _)

theorem cutAllShort (s : State) : Raises s s.cutAllShort := foldl (fun t _ => cutShort t) _ s

end Raises

end Sys2Proof.Machine.HostLink

/-!
PROOF. Every step keeps the Link Port's sets and replies in form (O60): the transmitter, the receiver, the owners of the
requests, the resets and power falls, and every command.
-/

namespace Sys2Proof.Machine.HostLink

open ChargeWeighing PressCycle

/-! ## The operations of the Link Port (R189 to R195) -/

theorem satAdd_le (top n k : Nat) : satAdd top n k ≤ top := by
  unfold satAdd
  split <;> omega

/-- A frame that starts is the reply of an answered request, or a notice. -/
theorem sound_startFrame {l : Link} (h : l.sound) : l.startFrame.sound := by
  obtain ⟨counted, listed, replying⟩ := (sound_iff l).mp h
  unfold Link.startFrame
  split
  · exact h
  · next free =>
    split
    · next f waits =>
      have answered := replying.waiting (by rw [waits]; rfl)
      exact (sound_iff _).mpr
        ⟨counted, ⟨listed.pending, listed.mask, listed.notice⟩, ⟨nofun, fun _ _ _ => ⟨rfl, answered⟩⟩⟩
    · next none =>
      split
      · split
        · exact (sound_iff _).mpr ⟨counted, ⟨listed.pending, listed.mask, nofun⟩, .of_quiet none (by simp [free])⟩
        · refine (sound_iff _).mpr ⟨counted, ⟨listed.pending, listed.mask, nofun⟩, .of_quiet none ?_⟩
          intro x hx
          cases hx
          nofun
      · exact h

/-- A frame that has been sent leaves no reply behind: at most one reply waits or is being sent. -/
theorem sound_sent {l : Link} (h : l.sound) : l.sent.sound := by
  obtain ⟨counted, listed, replying⟩ := (sound_iff l).mp h
  have kept (g : Option InHand) : Listed { l with transmission := none, inHand := g } :=
    ⟨listed.pending, listed.mask, listed.notice⟩
  unfold Link.sent
  split
  · exact h
  · next x hx =>
    split
    · next reply =>
      obtain ⟨none, -⟩ := replying.sending x hx reply
      exact (sound_iff _).mpr ⟨counted, kept _, .of_quiet none nofun⟩
    all_goals exact (sound_iff _).mpr ⟨counted, kept _, ⟨replying.waiting, nofun⟩⟩

theorem sound_reset (rate : Nat) : (Link.reset rate).sound :=
  (sound_iff _).mpr ⟨Nat.zero_le _, ⟨canonicalKinds_fill, canonicalKinds_all, nofun⟩, .of_quiet rfl nofun⟩

/-- A frame under way as a reset begins is no reply to a request in hand (R203). -/
theorem orphaned_what {l : Link} {x : Transmission} (h : l.transmission.map Transmission.orphaned = some x) :
    x.what ≠ .reply := by
  obtain ⟨y, -, rfl⟩ := Option.map_eq_some_iff.mp h
  unfold Transmission.orphaned
  cases y.what <;> nofun

theorem sound_warm (l : Link) (rate : Nat) : (l.warm rate).sound :=
  (sound_iff _).mpr
    ⟨Nat.zero_le _, ⟨canonicalKinds_fill, canonicalKinds_all, nofun⟩, .of_quiet rfl fun _ => orphaned_what⟩

theorem sound_powerFall {l : Link} (h : l.sound) : l.powerFall.sound := by
  obtain ⟨counted, listed, -⟩ := (sound_iff l).mp h
  exact (sound_iff _).mpr ⟨counted, ⟨listed.pending, listed.mask, nofun⟩, .of_quiet rfl fun _ => orphaned_what⟩

theorem canonicalKinds_addKinds (ks set : List EventKind) : canonicalKinds (addKinds ks set) := canonicalKinds_filter _

/-! ## Keeping the Link Port sound -/

/-- From `s` to `t` the Link Port's sets and replies stay in form. -/
structure Minds (s t : State) : Prop where
  sound : s.link.sound → t.link.sound

/-- From `s` to `t` the request in hand has been dealt with by its owner, for whom it waited. -/
structure Answers (s t : State) : Prop where
  sound : s.link.sound → Awaits s.link → t.link.sound

theorem Raises.minds {s t : State} (h : Raises s t) : Minds s t := by
  refine ⟨fun hs => ?_⟩
  obtain ⟨handled, listed⟩ := h
  obtain ⟨counted, sets, replying⟩ := (sound_iff _).mp hs
  simp only [HostLink.handling, Prod.mk.injEq] at handled
  obtain ⟨inHand, transmission, reply, discarded⟩ := handled
  have answered : Answered s.link → Answered t.link := fun h => by rw [Answered, inHand]; exact h
  refine (sound_iff _).mpr ⟨by rw [discarded]; exact counted, listed sets, fun some => ?_, fun x hx sent => ?_⟩
  · rw [reply] at some
    exact answered (replying.waiting some)
  · rw [transmission] at hx
    obtain ⟨none, past⟩ := replying.sending x hx sent
    exact ⟨by rw [reply]; exact none, answered past⟩

/-- A request that waits for its owner, or a frame that has just become the request in hand, is answered: no other reply
waits or is being sent (R192). -/
theorem sound_answer {s : State} (h : s.link.sound) (waits : Awaits s.link) (st : Status) (data : List Byte) :
    (s.answer st data).link.sound := by
  obtain ⟨counted, listed, replying⟩ := (sound_iff _).mp h
  obtain ⟨none, sending⟩ := replying.quiet (not_answered (.inr waits))
  obtain ⟨g, inHand, -⟩ := waits
  unfold State.answer
  rw [inHand]
  refine (sound_iff _).mpr ⟨counted, ⟨listed.pending, listed.mask, listed.notice⟩, fun _ => ⟨_, rfl, nofun⟩, ?_⟩
  exact fun x hx sent => (sending x hx sent).elim

/-- An owner that raises events at most, and then answers. -/
theorem Raises.answer {s t : State} (h : Raises s t) (st : Status) (data : List Byte) :
    Answers s (t.answer st data) := by
  refine ⟨fun hs waits => sound_answer (h.minds.sound hs) ?_ st data⟩
  have inHand : t.link.inHand = s.link.inHand := congrArg Prod.fst h.handling
  rw [Awaits, inHand]
  exact waits

theorem Answers.answered (s : State) (st : Status) (data : List Byte) : Answers s (s.answer st data) :=
  (Raises.refl s).answer st data

namespace Minds

variable {s t u : State}

theorem refl (s : State) : Minds s s := ⟨id⟩

theorem trans (h : Minds s t) (k : Minds t u) : Minds s u := ⟨k.sound ∘ h.sound⟩

theorem of_link (h : t.link = s.link) : Minds s t := (Raises.of_link h).minds

theorem pump (h : Minds s t) : Minds s t.pump := by
  refine h.trans ⟨fun ht => ?_⟩
  unfold State.pump
  split
  · exact sound_startFrame ht
  · exact ht

theorem oneChange (h : Minds s t) : Minds s (oneChange u t) := h.trans (of_link (oneChange_link u t))

/-! ### The receiver (R189 to R193) -/

theorem receiver (s : State) (r : Receiver) : Minds s (s.modLink fun l => { l with receiver := r }) := ⟨id⟩

theorem discardFrame (s : State) : Minds s s.discardFrame := by
  refine ⟨fun h => ?_⟩
  obtain ⟨-, rest⟩ := h
  exact ⟨satAdd_le .., rest⟩

/-- A frame becomes the request in hand while there is none. -/
theorem hand (free : s.link.inHand = none) (kind tag : Byte) (body : List Byte) :
    Minds s (s.modLink fun l => { l with inHand := some ⟨kind, tag, body, .handed⟩ }) := by
  refine ⟨fun h => ?_⟩
  obtain ⟨counted, listed, replying⟩ := (sound_iff _).mp h
  obtain ⟨none, sending⟩ := replying.quiet (not_answered (.inl free))
  exact (sound_iff _).mpr ⟨counted, ⟨listed.pending, listed.mask, listed.notice⟩, .of_quiet none sending⟩

theorem answerAtOnce (free : s.link.inHand = none) (kind tag : Byte) (body : List Byte) (st : Status) :
    Minds s (s.answerAtOnce kind tag body st) :=
  ⟨fun h => sound_answer ((hand free kind tag body).sound h) ⟨_, rfl, rfl⟩ st []⟩

theorem goodFrame (s : State) (kind tag : Byte) (body : List Byte) : Minds s (s.goodFrame kind tag body) := by
  unfold State.goodFrame
  split
  · exact discardFrame s
  · next free =>
    replace free := Option.not_isSome_iff_eq_none.mp free
    repeat' split
    · exact answerAtOnce free ..
    · exact answerAtOnce free ..
    · exact answerAtOnce free ..
    · exact hand free ..

theorem overLengthFrame (s : State) (kind tag : Byte) : Minds s (s.overLengthFrame kind tag) := by
  unfold State.overLengthFrame
  split
  · next free =>
    simp only [Bool.and_eq_true, Bool.not_eq_true', Option.isSome_eq_false_iff, Option.isNone_iff_eq_none] at free
    exact answerAtOnce free.2 ..
  · exact discardFrame s

theorem acceptHeard (s : State) (h : Option Heard) : Minds s (s.acceptHeard h) := by
  unfold State.acceptHeard
  split
  · exact refl s
  · exact goodFrame ..
  · exact discardFrame s
  · exact overLengthFrame ..

theorem hearByte (s : State) (b : Byte) : Minds s (s.hearByte b) := (receiver s _).trans (acceptHeard _ _)

theorem hear (s : State) (bytes : List Byte) : Minds s (s.hear bytes) := by
  unfold State.hear
  induction bytes generalizing s with
  | nil => exact refl s
  | cons b rest ih => exact (hearByte s b).trans (ih _)

theorem abandonFrame (s : State) : Minds s s.abandonFrame := by
  unfold State.abandonFrame
  split
  · exact (receiver s _).trans (discardFrame _)
  · exact refl s
  · exact refl s

/-! ### The commands' common forms -/

theorem plantEvent {act : State → State} (hact : ∀ u, Raises u (act u)) (s : State) : Minds s (plantEvent s act) := by
  unfold Machine.plantEvent
  split
  · exact (hact s).minds.oneChange.pump
  · exact refl s

theorem lineEvent {act : State → State} (hact : ∀ u, Minds u (act u)) (s : State) : Minds s (lineEvent s act) := by
  unfold Machine.lineEvent
  split
  · exact (hact s).pump
  · exact refl s

/-- A request that waits for its owner is taken by it. -/
theorem taken {own : State → State} {kind tag : Byte} {body : List Byte} (hown : Answers s (own s))
    (h : s.holds kind tag body) : Minds s (s.taken own) := by
  have answered : Minds s (own s) := ⟨fun hs => hown.sound hs ⟨_, h.2, rfl⟩⟩
  exact answered.oneChange.pump

theorem serve {own : State → State} (hown : ∀ u, Answers u (own u)) (s : State) (kind tag : Byte) (body : List Byte) :
    Minds s (s.serve kind tag body own) := by
  have heard := hear s (frameBytes kind tag body)
  unfold State.serve
  split
  · next now => exact taken (hown s) ((State.holdsNow_iff ..).mp now)
  · split
    · dsimp only
      split
      · next now => exact heard.trans (taken (hown _) ((State.holdsNow_iff ..).mp now))
      · exact heard.pump
    · exact refl s

theorem inputEvent (p : Fin 4) (levels : PressInputs) (guardRise : Bool) (s : State) :
    Minds s (inputEvent p levels guardRise s) := by
  unfold Machine.inputEvent
  dsimp only
  split
  · exact trans (of_link (by rfl)) (plantEvent (fun u => .settled (p := p) u) _)
  · exact of_link rfl

/-! ### Power-on and the recall (R153 to R156) -/

/-- The power-on values of the Link Port do not look at what it was. -/
theorem powerOnValues (s u : State) (phase : Phase) (rate : Nat) : Minds s (u.powerOnValues phase rate) :=
  ⟨fun _ => sound_reset rate⟩

theorem beginRecall (s : State) : Minds s s.beginRecall := ⟨id⟩

theorem powerOn (s : State) : Minds s s.powerOn := by
  have values := powerOnValues s s .waiting s.recallRate
  unfold State.powerOn
  dsimp only
  split
  · exact values
  · exact values.trans (beginRecall _)

theorem powerOnReset (s : State) (pfail : Bool) : Minds s (s.powerOnReset pfail) := by
  have on {u : State} (h : u.link = s.link) : Minds s u.powerOn := (of_link h).trans (powerOn u)
  unfold State.powerOnReset
  dsimp only
  split
  · split
    · exact on rfl
    · exact of_link rfl
  · split
    · exact on rfl
    · exact trans (of_link (by rfl)) (beginRecall _)
  all_goals exact on rfl

/-! ### The warm reset and the power fall (R138, R151 to R153, R157) -/

theorem beginWarm (s : State) : Minds s s.beginWarm := ⟨fun _ => sound_warm ..⟩

theorem stop (s : State) (fallen : Bool) : Minds s (s.stop fallen) := by
  unfold State.stop
  dsimp only
  split
  · exact (of_link rfl).trans (powerOn _)
  · exact of_link rfl

theorem powerFallOn (s : State) (final fallen : Bool) : Minds s (s.powerFallOn final fallen) := by
  unfold State.powerFallOn
  split
  · exact of_link rfl
  · exact stop s fallen

theorem beginPowerFall (s : State) : Minds s s.beginPowerFall := by
  have falling (t : State) : Minds s
      (State.modRetained { t with phase := .powerFall false false, link := s.link.powerFall } fun r =>
        { r with periodic := none, storeAgain := false }) := ⟨sound_powerFall⟩
  unfold State.beginPowerFall
  generalize s.outputsOff.cutAllShort = t
  dsimp only
  split
  · exact falling _
  · exact (falling _).trans (powerFallOn _ _ _)

theorem pfailRises (s : State) : Minds s s.pfailRises := by
  have level : Minds s { s with pfail := true } := of_link rfl
  unfold State.pfailRises
  dsimp only
  split
  · exact level.trans (beginPowerFall _)
  · exact level.trans (beginPowerFall _)
  · exact ⟨sound_powerFall⟩
  all_goals exact level

theorem storeCompletes (s : State) (f : InFlight) : Minds s (s.storeCompletes f) := by
  have finished := (Raises.finishStore s f).minds
  have again := finished.trans (Raises.storeOnceMore _).minds
  unfold State.storeCompletes
  dsimp only
  split
  · exact finished.trans (powerFallOn _ _ _)
  · exact again.pump
  · exact again.pump
  all_goals exact again

theorem later (s : State) : Minds s s.later := by
  unfold State.later
  split <;> exact of_link rfl

end Minds

/-! ## The owners of the requests -/

section Owners

variable (s : State)

/-- RESTART is answered OK, and stays in hand past its owner (R202). -/
theorem answers_ownRestart : Answers s (ownRestart s) := by
  refine ⟨fun h waits => ?_⟩
  have answered := sound_answer h waits .ok []
  obtain ⟨counted, listed, replying⟩ := (sound_iff _).mp answered
  have past : Answered (s.answer .ok []).link → Answered (ownRestart s).link := by
    rintro ⟨g, inHand, -⟩
    exact ⟨{ g with stage := .restarting }, by simp [ownRestart, Link.restarts, inHand], nofun⟩
  refine (sound_iff _).mpr ⟨counted, ⟨listed.pending, listed.mask, listed.notice⟩,
    fun some => past (replying.waiting some), fun x hx sent => ?_⟩
  obtain ⟨none, answered⟩ := replying.sending x hx sent
  exact ⟨none, past answered⟩

theorem answers_ownReadEvents : Answers s (ownReadEvents s) :=
  have emptied : Raises s (s.modLink Link.readEvents) := ⟨rfl, fun h => ⟨canonicalKinds_fill, h.mask, nofun⟩⟩
  emptied.answer _ _

/-- ENABLE lets the kinds join the mask, and offers the notice rule a pending one at most (R197, R198). -/
theorem enable_cases (l : Link) (ks : List EventKind) :
    l.enable ks = { l with mask := addKinds ks l.mask } ∨
      l.enable ks = { l with mask := addKinds ks l.mask }.offerNotice := by
  unfold Link.enable
  dsimp only
  split
  · exact .inr rfl
  · exact .inl rfl

theorem raises_masked (enable : Bool) (ks : List EventKind) : Raises s (s.modLink fun l => l.masked enable ks) := by
  cases enable with
  | false => exact ⟨rfl, fun h => ⟨h.pending, canonicalKinds_removeKinds h.mask ks, h.notice⟩⟩
  | true =>
    have joined (h : Listed s.link) : Listed { s.link with mask := addKinds ks s.link.mask } :=
      { pending := h.pending, mask := canonicalKinds_addKinds ks _, notice := h.notice }
    change Raises s { s with link := s.link.enable ks }
    rcases enable_cases s.link ks with e | e
    · rw [e]
      exact ⟨rfl, joined⟩
    · rw [e]
      exact ⟨handling_offerNotice _, fun h => listed_offerNotice (joined h)⟩

theorem answers_ownMaskEvents (mode : Byte) (kinds : List Byte) : Answers s (ownMaskEvents mode kinds s) := by
  unfold ownMaskEvents
  split
  · exact (raises_masked s _ _).answer _ _
  all_goals exact .answered ..

theorem answers_ownGetSetting (ident : Byte) : Answers s (ownGetSetting ident s) := by
  unfold ownGetSetting
  split <;> exact .answered ..

theorem answers_ownSetSetting (ident : Byte) (value : Word) : Answers s (ownSetSetting ident value s) := by
  unfold ownSetSetting
  split
  · exact .answered ..
  · split
    · exact .answered ..
    · exact (Raises.writeSetting s _ _).answer _ _

theorem answers_ownSetTuning (zone kp ki : Byte) : Answers s (ownSetTuning zone kp ki s) := by
  unfold ownSetTuning
  split
  · exact .answered ..
  · exact Raises.answer (.of_link (by rfl)) _ _

theorem answers_ownWriteRecipe (slot : Byte) (r : RawRecipe) : Answers s (ownWriteRecipe slot r s) := by
  unfold ownWriteRecipe
  split
  · exact .answered ..
  · split
    · exact .answered ..
    · split
      · exact .answered ..
      · split
        · exact .answered ..
        · exact Raises.answer (.of_link (by rfl)) _ _

theorem answers_ownReadRecipe (slot : Byte) : Answers s (ownReadRecipe slot s) := by
  unfold ownReadRecipe
  split
  · exact .answered ..
  · split <;> exact .answered ..

theorem answers_ownAssignRecipe (press slot : Byte) : Answers s (ownAssignRecipe press slot s) := by
  unfold ownAssignRecipe
  split
  · repeat' split
    · exact .answered ..
    · exact .answered ..
    · exact Raises.answer (.of_link (by rfl)) _ _
  all_goals exact .answered ..

theorem answers_ownSetHeatMode (press mode : Byte) (standby : Half) (held : Byte) :
    Answers s (ownSetHeatMode press mode standby held s) := by
  unfold ownSetHeatMode
  split
  · split
    · exact .answered ..
    · exact (Raises.setMode ..).answer _ _
  all_goals exact .answered ..

theorem answers_ownReadZones (press : Byte) : Answers s (ownReadZones press s) := by
  unfold ownReadZones
  split <;> exact .answered ..

theorem answers_ownClearZone (zone : Byte) : Answers s (ownClearZone zone s) := by
  unfold ownClearZone
  split
  · exact .answered ..
  · split
    · exact Raises.answer (.of_link (by rfl)) _ _
    · exact .answered ..

theorem answers_ownDisableZone (zone : Byte) : Answers s (ownDisableZone zone s) := by
  unfold ownDisableZone
  split
  · exact .answered ..
  · exact Raises.answer (.of_link (by rfl)) _ _

theorem answers_ownEnableZone (zone : Byte) : Answers s (ownEnableZone zone s) := by
  unfold ownEnableZone
  split
  · exact .answered ..
  · split
    · exact Raises.answer (.of_link (by rfl)) _ _
    · exact .answered ..

theorem answers_ownPostOrder (orderTag press : Byte) : Answers s (ownPostOrder orderTag press s) := by
  unfold ownPostOrder
  split
  · exact .answered ..
  · split
    · exact .answered ..
    · exact (Raises.modStation s _).answer _ _

theorem answers_ownCancelOrder (orderTag : Byte) : Answers s (ownCancelOrder orderTag s) := by
  unfold ownCancelOrder
  repeat' split
  · exact (Raises.modStation s _).answer _ _
  · exact (Raises.modStation s _).answer _ _
  all_goals exact .answered ..

theorem answers_ownZeroScale : Answers s (ownZeroScale s) := by
  unfold ownZeroScale
  split
  · exact .answered ..
  · exact (Raises.zeroCapture s).answer _ _

theorem answers_ownLoad (press : Byte) (serial : Word) : Answers s (ownLoad press serial s) := by
  unfold ownLoad
  split
  · exact .answered ..
  · split
    · exact .answered ..
    · exact (Raises.loadTicket s _).answer _ _
    · exact .answered ..

theorem answers_ownClose (press : Byte) : Answers s (ownClose press s) := by
  unfold ownClose
  split
  · exact .answered ..
  · split
    · exact .answered ..
    · exact ((Raises.startClosing s).trans (.settled _)).answer _ _

theorem answers_ownOpen (press : Byte) : Answers s (ownOpen press s) := by
  unfold ownOpen
  split
  · exact .answered ..
  · repeat' split
    · exact .answered ..
    · exact .answered ..
    · exact ((Raises.startToOpen s).trans (.settled _)).answer _ _

theorem answers_ownAbort (press : Byte) : Answers s (ownAbort press s) := by
  have moving (p : Fin 4) : Raises s (((s.markAborted p).startToOpen p).settled p) :=
    ((Raises.writeBound s _).trans (.startToOpen _)).trans (.settled _)
  unfold ownAbort
  split
  · exact .answered ..
  · split
    · exact ((Raises.closeBound s _ _).trans (.modPress _ _)).answer _ _
    · exact (moving _).answer _ _
    · exact (moving _).answer _ _
    all_goals exact .answered ..

theorem answers_ownRelease (press : Byte) : Answers s (ownRelease press s) := by
  unfold ownRelease
  split
  · exact .answered ..
  · split
    · exact ((Raises.closeBound s _ _).trans (.modPress _ _)).answer _ _
    · exact .answered ..

theorem answers_ownClearFault (press : Byte) : Answers s (ownClearFault press s) := by
  unfold ownClearFault
  split
  · exact .answered ..
  · repeat' split
    · exact .answered ..
    · exact (Raises.modPress s _).answer _ _
    · exact .answered ..

theorem answers_ownReadPress (press : Byte) : Answers s (ownReadPress press s) := by
  unfold ownReadPress
  split <;> exact .answered ..

theorem answers_ownReadHistory (start : Half) (count : Byte) : Answers s (ownReadHistory start count s) := by
  unfold ownReadHistory
  split <;> exact .answered ..

theorem answers_ownCollect (n : Half) : Answers s (ownCollect n s) := by
  have collected : Raises s (s.collectRecords n.toNat) := Raises.historyTest (.of_link rfl)
  unfold ownCollect
  split
  · exact .answered ..
  · exact collected.answer _ _

theorem answers_ownAnnotate (serial : Word) (result inspector : Byte) :
    Answers s (ownAnnotate serial result inspector s) := by
  unfold ownAnnotate
  split
  · exact .answered ..
  · split
    · exact .answered ..
    · repeat' split
      · exact .answered ..
      · exact .answered ..
      · exact Raises.answer (.of_link (by rfl)) _ _

theorem answers_ownReadOpen (serial : Word) : Answers s (ownReadOpen serial s) := by
  unfold ownReadOpen
  split <;> exact .answered ..

theorem answers_ownStore : Answers s (ownStore s) := by
  unfold ownStore
  split <;> exact Raises.answer (.of_link (by rfl)) _ _

theorem answers_ownSnapshotCounters (press clear : Byte) : Answers s (ownSnapshotCounters press clear s) := by
  unfold ownSnapshotCounters
  split
  · exact (Raises.snapshot ..).answer _ _
  all_goals exact .answered ..

theorem answers_ownReadCounters (press : Byte) : Answers s (ownReadCounters press s) := by
  unfold ownReadCounters
  split <;> exact .answered ..

end Owners

/-! ## Every command and every step -/

/-- A request is served, by an owner that answers it. -/
theorem exec_request {i : Instr} {kind tag : Byte} {body : List Byte} (e : i.request? = some (kind, tag, body)) :
    ∃ own : State → State, (∀ u, Answers u (own u)) ∧ ∀ s, exec i s = .next (s.serve kind tag body own) := by
  cases i with
  | identify => cases e; exact ⟨ownIdentify, fun u => .answered u _ _, fun _ => rfl⟩
  | cellStatus => cases e; exact ⟨ownCellStatus, fun u => .answered u _ _, fun _ => rfl⟩
  | restart => cases e; exact ⟨_, answers_ownRestart, fun _ => rfl⟩
  | setClock _ seconds =>
    cases e; exact ⟨ownSetClock seconds, fun u => Raises.answer (.of_link (by rfl)) _ _, fun _ => rfl⟩
  | readClock => cases e; exact ⟨ownReadClock, fun u => .answered u _ _, fun _ => rfl⟩
  | readEvents => cases e; exact ⟨_, answers_ownReadEvents, fun _ => rfl⟩
  | maskEvents => cases e; exact ⟨_, fun u => answers_ownMaskEvents u _ _, fun _ => rfl⟩
  | getSetting => cases e; exact ⟨_, fun u => answers_ownGetSetting u _, fun _ => rfl⟩
  | setSetting => cases e; exact ⟨_, fun u => answers_ownSetSetting u _ _, fun _ => rfl⟩
  | setTuning => cases e; exact ⟨_, fun u => answers_ownSetTuning u _ _ _, fun _ => rfl⟩
  | writeRecipe => cases e; exact ⟨_, fun u => answers_ownWriteRecipe u _ _, fun _ => rfl⟩
  | readRecipe => cases e; exact ⟨_, fun u => answers_ownReadRecipe u _, fun _ => rfl⟩
  | assignRecipe => cases e; exact ⟨_, fun u => answers_ownAssignRecipe u _ _, fun _ => rfl⟩
  | setHeatMode => cases e; exact ⟨_, fun u => answers_ownSetHeatMode u _ _ _ _, fun _ => rfl⟩
  | readZones => cases e; exact ⟨_, fun u => answers_ownReadZones u _, fun _ => rfl⟩
  | clearZone => cases e; exact ⟨_, fun u => answers_ownClearZone u _, fun _ => rfl⟩
  | disableZone => cases e; exact ⟨_, fun u => answers_ownDisableZone u _, fun _ => rfl⟩
  | enableZone => cases e; exact ⟨_, fun u => answers_ownEnableZone u _, fun _ => rfl⟩
  | postOrder => cases e; exact ⟨_, fun u => answers_ownPostOrder u _ _, fun _ => rfl⟩
  | cancelOrder => cases e; exact ⟨_, fun u => answers_ownCancelOrder u _, fun _ => rfl⟩
  | zeroScale => cases e; exact ⟨_, answers_ownZeroScale, fun _ => rfl⟩
  | readScale => cases e; exact ⟨ownReadScale, fun u => .answered u _ _, fun _ => rfl⟩
  | load => cases e; exact ⟨_, fun u => answers_ownLoad u _ _, fun _ => rfl⟩
  | close => cases e; exact ⟨_, fun u => answers_ownClose u _, fun _ => rfl⟩
  | openPress => cases e; exact ⟨_, fun u => answers_ownOpen u _, fun _ => rfl⟩
  | abort => cases e; exact ⟨_, fun u => answers_ownAbort u _, fun _ => rfl⟩
  | release => cases e; exact ⟨_, fun u => answers_ownRelease u _, fun _ => rfl⟩
  | clearFault => cases e; exact ⟨_, fun u => answers_ownClearFault u _, fun _ => rfl⟩
  | readPress => cases e; exact ⟨_, fun u => answers_ownReadPress u _, fun _ => rfl⟩
  | readHistory => cases e; exact ⟨_, fun u => answers_ownReadHistory u _ _, fun _ => rfl⟩
  | collect => cases e; exact ⟨_, fun u => answers_ownCollect u _, fun _ => rfl⟩
  | annotate => cases e; exact ⟨_, fun u => answers_ownAnnotate u _ _ _, fun _ => rfl⟩
  | readOpen => cases e; exact ⟨_, fun u => answers_ownReadOpen u _, fun _ => rfl⟩
  | store => cases e; exact ⟨_, answers_ownStore, fun _ => rfl⟩
  | snapshotCounters => cases e; exact ⟨_, fun u => answers_ownSnapshotCounters u _ _, fun _ => rfl⟩
  | readCounters => cases e; exact ⟨_, fun u => answers_ownReadCounters u _, fun _ => rfl⟩
  | _ => cases e

/-- The state a command answers. -/
theorem minds_of_next {s t u : State} (e : (.next u : Host.Outcome State Fault Refusal) = .next t) (h : Minds s u) :
    Minds s t := Host.Outcome.next.inj e ▸ h

/-- An event that acts under a condition, and otherwise changes nothing. -/
theorem minds_ite {c : Prop} [Decidable c] {s t u : State}
    (e : (.next (if c then u else s) : Host.Outcome State Fault Refusal) = .next t) (h : Minds s u) : Minds s t := by
  refine minds_of_next e ?_
  split
  · exact h
  · exact .refl s

theorem minds_transmitComplete {s t : State} (e : execTransmitComplete s = .next t) : Minds s t := by
  have sent : Minds s (s.modLink Link.sent) := ⟨sound_sent⟩
  obtain rfl := Host.Outcome.next.inj e
  split
  · exact ((sent.trans (.beginWarm _)).trans (Raises.completeWarm _).minds).pump
  · exact sent.pump

theorem minds_guardOkFall {s t : State} (e : execGuardOkFall s = .next t) : Minds s t := by
  have low : Minds s { s with lines := { s.lines with guardOk := false } } := .of_link rfl
  obtain rfl := Host.Outcome.next.inj e
  split
  · exact (low.trans (Raises.guardFalls _).minds).pump
  · exact low

theorem minds_storeComplete {s t : State} (e : execStoreComplete s = .next t) : Minds s t := by
  obtain rfl := Host.Outcome.next.inj e
  split
  · exact .storeCompletes s _
  · exact .refl s

/-- A command that is no request: an event of the line, of the plant, of a timer or of the supply. -/
theorem minds_event {c : Instr} (none : c.request? = none) {s t : State} (e : exec c s = .next t) : Minds s t :=
  match c with
  | .goodFrame _ _ _ => minds_of_next e (.lineEvent (fun u => .hear u _) s)
  | .badCrcFrame _ _ _ _ => minds_of_next e (.lineEvent (fun u => .hear u _) s)
  | .overLengthFrame _ _ _ _ => minds_of_next e (.lineEvent (fun u => .hear u _) s)
  | .interbyteGapTimeout bytes =>
    minds_of_next e (.lineEvent (fun u => ((Minds.hear u bytes).trans (.abandonFrame _)).trans (.receiver _ _)) s)
  | .framingError bytes => minds_of_next e (.lineEvent (fun u => (Minds.hear u bytes).trans (.abandonFrame _)) s)
  | .transmitComplete => minds_transmitComplete e
  | .thermocoupleReading zone reading => minds_ite e (Raises.takeReading s zone reading).minds.pump
  | .heatFrameBoundary => minds_of_next e (.plantEvent .boundary s)
  | .heaterSlot => minds_ite e (.of_link rfl)
  | .goodSample _ => minds_of_next e (.plantEvent (fun u => (Raises.modStation u _).trans (.onSample _)) s)
  | .faultedSample => minds_of_next e (.plantEvent .faultSample s)
  | .settleTimeout => minds_of_next e (.plantEvent .settleExpires s)
  | .ticketPotLifeExpiry _ serial => minds_of_next e (.plantEvent (fun u => .expireTicket u serial.toNat) s)
  | .boundPotLifeExpiry _ => minds_of_next e (.plantEvent .expireBound s)
  | .curingConditionMet _ _ _ => minds_of_next e (.inputEvent ..)
  | .pressureDip _ _ _ _ => minds_of_next e (.inputEvent ..)
  | .guardOkFall => minds_guardOkFall e
  | .openLimitMet _ _ _ => minds_of_next e (.inputEvent ..)
  | .ejectOutMet _ _ _ => minds_of_next e (.inputEvent ..)
  | .ejectHomeMet _ _ _ => minds_of_next e (.inputEvent ..)
  | .openLimitDrift _ _ _ => minds_of_next e (.inputEvent ..)
  | .keyChange _ => minds_of_next e (.of_link rfl)
  | .closeTimerExpiry _ => minds_of_next e (.plantEvent .closeExpires s)
  | .openTimerExpiry _ => minds_of_next e (.plantEvent .openExpires s)
  | .strokeTimerExpiry _ => minds_of_next e (.plantEvent .strokeExpires s)
  | .minimumOpenExpiry _ => minds_of_next e (.plantEvent (fun u => .modPress u _) s)
  | .storeComplete => minds_storeComplete e
  | .periodicStoreExpiry => minds_of_next e (.plantEvent .periodicExpires s)
  | .pfailRise => minds_of_next e (.pfailRises s)
  | .powerOnReset pfail => minds_of_next e (.powerOnReset s pfail)
  | .recallComplete => minds_ite e (Raises.completeRecall s).minds.pump
  | .resetLineLow => minds_ite e (.beginWarm s)
  | .resetLineHigh => minds_ite e (Raises.completeWarm s).minds.pump
  | .clockTick => minds_ite e (.of_link rfl)
  | .pressureDipEnd _ _ _ => minds_of_next e (.inputEvent ..)
  | .supplyLost => minds_of_next e (.powerOnValues ..)

theorem minds_exec (c : Instr) {s t : State} (e : exec c s = .next t) : Minds s t := by
  cases h : c.request? with
  | none => exact minds_event h e
  | some r =>
    obtain ⟨own, answers, served⟩ := exec_request h
    rw [served] at e
    exact minds_of_next e (.serve answers ..)

/-- Settles O60: a step is a command on the rest of the queue, or a millisecond, which changes timers only. -/
theorem everyStepKeepsTheLinkSound : Obligations.EveryStepKeepsTheLinkSound := by
  unfold Obligations.EveryStepKeepsTheLinkSound
  intro s t h e
  unfold step at e
  split at e
  · exact (minds_of_next e (.later s)).sound h
  · next c rest _ => exact (minds_exec c (s := { s with pending := rest }) e).sound h

end Sys2Proof.Machine.HostLink

/-!
PROOF. A well-formed request and its frame spell each other (O6): numbers and their bytes, the recipe record and its 141
bytes, and the 36 layouts of the requests (R204, R205).
-/

namespace Sys2Proof.Machine.HostLink

/-! ## Numbers and their bytes (R204) -/

theorem halfBytes_halfOf (a b : Byte) : halfBytes (halfOf a b) = [a, b] := by
  rw [halfBytes, halfOf, BitVec.extractLsb'_append_eq_left, BitVec.extractLsb'_append_eq_right]

theorem halfOf_halfBytes (h : Half) : halfOf (h.extractLsb' 8 8) (h.extractLsb' 0 8) = h :=
  (BitVec.extractLsb'_append_extractLsb'_eq_extractLsb' rfl).trans BitVec.extractLsb'_eq_self

theorem wordBytes_wordOf (a b c d : Byte) : wordBytes (wordOf a b c d) = [a, b, c, d] := by
  have high (n : Nat) (hn : 16 ≤ n) : (wordOf a b c d).extractLsb' n 8 = (a ++ b).extractLsb' (n - 16) 8 :=
    BitVec.extractLsb'_append_eq_of_le hn
  have low (n : Nat) (hn : n + 8 ≤ 16) : (wordOf a b c d).extractLsb' n 8 = (c ++ d).extractLsb' n 8 :=
    BitVec.extractLsb'_append_eq_of_add_le hn
  rw [wordBytes, high 24 (by decide), high 16 (by decide), low 8 (by decide), low 0 (by decide),
    BitVec.extractLsb'_append_eq_left, BitVec.extractLsb'_append_eq_right, BitVec.extractLsb'_append_eq_left,
    BitVec.extractLsb'_append_eq_right]

theorem wordOf_wordBytes (w : Word) :
    wordOf (w.extractLsb' 24 8) (w.extractLsb' 16 8) (w.extractLsb' 8 8) (w.extractLsb' 0 8) = w := by
  have high : w.extractLsb' 24 8 ++ w.extractLsb' 16 8 = w.extractLsb' 16 16 :=
    BitVec.extractLsb'_append_extractLsb'_eq_extractLsb' rfl
  have low : w.extractLsb' 8 8 ++ w.extractLsb' 0 8 = w.extractLsb' 0 16 :=
    BitVec.extractLsb'_append_extractLsb'_eq_extractLsb' rfl
  rw [wordOf, high, low]
  exact (BitVec.extractLsb'_append_extractLsb'_eq_extractLsb' rfl).trans BitVec.extractLsb'_eq_self

/-! ## Fields one after another -/

/-- `one` reads what `write` has written, and leaves what follows it. -/
def Reads {α : Type} (one : List Byte → Option (α × List Byte)) (write : α → List Byte) : Prop :=
  ∀ a rest, one (write a ++ rest) = some (a, rest)

/-- Any `n` bytes, whatever follows them, are what `write` writes of some value. -/
def Spans {α : Type} (write : α → List Byte) (n : Nat) : Prop :=
  ∀ (bytes : List Byte) (m : Nat), bytes.length = n + m → ∃ a rest, bytes = write a ++ rest ∧ rest.length = m

section Fields

variable {α : Type} {one : List Byte → Option (α × List Byte)} {write : α → List Byte} {n : Nat}

/-- A field that has been written is read, and what follows it is read next. -/
theorem Reads.bind {β : Type} (h : Reads one write) (a : α) (rest : List Byte) (next : α × List Byte → Option β) :
    (one (write a ++ rest) >>= next) = next (a, rest) := by
  rw [h]
  rfl

/-- What holds of a field's bytes before any `m` bytes holds of any `n + m` bytes. -/
theorem Spans.all (h : Spans write n) (m : Nat) {P : List Byte → Prop}
    (hP : ∀ a rest, rest.length = m → P (write a ++ rest)) (bytes : List Byte) (hn : bytes.length = n + m) :
    P bytes := by
  obtain ⟨a, rest, rfl, hm⟩ := h bytes m hn
  exact hP a rest hm

/-- No bytes are left. -/
theorem all_nil {P : List Byte → Prop} (h : P []) (bytes : List Byte) (none : bytes.length = 0) : P bytes := by
  obtain rfl := List.length_eq_zero_iff.mp none
  exact h

/-- A table is read entry by entry. -/
theorem Reads.tab (h : Reads one write) (k : Nat) :
    Reads (takeTab one k) (fun t : Tab α k => t.toList.flatMap write) := by
  have list (l : List α) (rest : List Byte) : takeList one l.length (l.flatMap write ++ rest) = some (l, rest) := by
    induction l with
    | nil => rfl
    | cons a l ih =>
      rw [List.flatMap_cons, List.append_assoc, List.length_cons, takeList, h]
      simp only [ih]
  intro t rest
  have read := list t.toList rest
  rw [t.size] at read
  rw [takeTab, read]
  exact dif_pos t.size

theorem Spans.tab (h : Spans write n) (k : Nat) : Spans (fun t : Tab α k => t.toList.flatMap write) (n * k) := by
  have list (k : Nat) (bytes : List Byte) (m : Nat) (hn : bytes.length = n * k + m) :
      ∃ (l : List α) (rest : List Byte), l.length = k ∧ bytes = l.flatMap write ++ rest ∧ rest.length = m := by
    induction k generalizing bytes with
    | zero => exact ⟨[], bytes, rfl, rfl, by omega⟩
    | succ k ih =>
      obtain ⟨a, more, rfl, hmore⟩ := h bytes (n * k + m) (by rw [hn]; ring)
      obtain ⟨l, rest, hl, rfl, hrest⟩ := ih more hmore
      exact ⟨a :: l, rest, by rw [List.length_cons, hl], by simp, hrest⟩
  intro bytes m hn
  obtain ⟨l, rest, hl, rfl, hrest⟩ := list k bytes m hn
  exact ⟨⟨l, hl⟩, rest, rfl, hrest⟩

end Fields

/-! ### The fields of the layouts -/

theorem spans_byte : Spans (fun b : Byte => [b]) 1 := by
  intro bytes m h
  match bytes with
  | [] => rw [List.length_nil] at h; omega
  | a :: rest => exact ⟨a, rest, rfl, by rw [List.length_cons] at h; omega⟩

theorem reads_half : Reads takeHalf halfBytes := fun h rest =>
  congrArg (fun x => some (x, rest)) (halfOf_halfBytes h)

theorem spans_half : Spans halfBytes 2 := by
  intro bytes m h
  obtain ⟨a, more, rfl, h1⟩ := spans_byte bytes (1 + m) (by omega)
  obtain ⟨b, rest, rfl, h0⟩ := spans_byte more m h1
  exact ⟨halfOf a b, rest, by rw [halfBytes_halfOf]; rfl, h0⟩

theorem spans_word : Spans wordBytes 4 := by
  intro bytes m h
  obtain ⟨a, more, rfl, h3⟩ := spans_byte bytes (3 + m) (by omega)
  obtain ⟨b, more, rfl, h2⟩ := spans_byte more (2 + m) (by omega)
  obtain ⟨c, more, rfl, h1⟩ := spans_byte more (1 + m) (by omega)
  obtain ⟨d, rest, rfl, h0⟩ := spans_byte more m h1
  exact ⟨wordOf a b c d, rest, by rw [wordBytes_wordOf]; rfl, h0⟩

theorem reads_segment : Reads takeSegment RawSegment.bytes := by
  intro g rest
  have parts : takeSegment (g.bytes ++ rest) = some (⟨_, _, _, g.endKind⟩, rest) := rfl
  rw [parts, halfOf_halfBytes, halfOf_halfBytes, halfOf_halfBytes]

theorem spans_segment : Spans RawSegment.bytes 7 := by
  intro bytes m h
  obtain ⟨target, b, rfl, h5⟩ := spans_half bytes (5 + m) (by omega)
  obtain ⟨rate, b, rfl, h3⟩ := spans_half b (3 + m) (by omega)
  obtain ⟨hold, b, rfl, h1⟩ := spans_half b (1 + m) (by omega)
  obtain ⟨endKind, b, rfl, h0⟩ := spans_byte b m h1
  exact ⟨⟨target, rate, hold, endKind⟩, b, by simp [RawSegment.bytes], h0⟩

theorem reads_band : Reads takeBand RawBand.bytes := by
  intro g rest
  have parts : takeBand (g.bytes ++ rest) = some (⟨_, _⟩, rest) := rfl
  rw [parts, halfOf_halfBytes, halfOf_halfBytes]

theorem spans_band : Spans RawBand.bytes 4 := by
  intro bytes m h
  obtain ⟨lower, b, rfl, h2⟩ := spans_half bytes (2 + m) (by omega)
  obtain ⟨weight, b, rfl, h0⟩ := spans_half b m h2
  exact ⟨⟨lower, weight⟩, b, by simp [RawBand.bytes], h0⟩

/-! ## The recipe record (chapter 11) -/

theorem reads_name : Reads (takeTab takeByte 12) (fun t : Tab Byte 12 => t.toList) := by
  have bytes : Reads takeByte (fun b => [b]) := fun _ _ => rfl
  have name := bytes.tab 12
  simp only [List.flatMap_singleton'] at name
  exact name

theorem spans_name : Spans (fun t : Tab Byte 12 => t.toList) 12 := by
  have bytes := spans_byte.tab 12
  simp only [List.flatMap_singleton'] at bytes
  exact bytes

/-- A record read back from its bytes. -/
theorem parseRecipe_bytes (r : RawRecipe) : parseRecipe r.bytes = some r := by
  have byte (b : Byte) (rest : List Byte) (next : Byte × List Byte → Option RawRecipe) :
      (takeByte (b :: rest) >>= next) = next (b, rest) := rfl
  have last (next : Half × List Byte → Option RawRecipe) :
      (takeHalf (halfBytes r.strokeTimeout) >>= next) = next (r.strokeTimeout, []) := by
    simpa using reads_half.bind r.strokeTimeout [] next
  have segments (rest : List Byte) (next : Tab RawSegment 8 × List Byte → Option RawRecipe) :=
    (reads_segment.tab 8).bind r.segments rest next
  have offsets (rest : List Byte) (next : Tab Half 6 × List Byte → Option RawRecipe) :=
    (reads_half.tab 6).bind r.offsets rest next
  have bands (rest : List Byte) (next : Tab RawBand 8 × List Byte → Option RawRecipe) :=
    (reads_band.tab 8).bind r.bands rest next
  unfold RawRecipe.bytes
  simp only [List.append_assoc, List.cons_append, List.nil_append]
  unfold parseRecipe
  simp only [↓reads_name.bind, ↓reads_half.bind, ↓byte, ↓segments, ↓offsets, ↓bands, ↓last, if_true]

/-- Any 141 bytes are a record's. -/
theorem exists_recipe : ∀ bytes : List Byte, bytes.length = 141 → ∃ r : RawRecipe, r.bytes = bytes := by
  refine spans_name.all 129 fun name => spans_half.all 127 fun nominal => spans_half.all 125 fun tolerance => ?_
  refine spans_half.all 123 fun potLife => spans_byte.all 122 fun segmentCount => ?_
  refine spans_byte.all 121 fun restSegment => (spans_segment.tab 8).all 65 fun segments => ?_
  refine (spans_half.tab 6).all 53 fun offsets => spans_half.all 51 fun readyBand => ?_
  refine spans_byte.all 50 fun bandCount => (spans_band.tab 8).all 18 fun bands => ?_
  refine spans_half.all 16 fun cureTarget => spans_half.all 14 fun minCure => spans_half.all 12 fun maxCure => ?_
  refine spans_half.all 10 fun overcure => spans_byte.all 9 fun autoOpen => spans_half.all 7 fun closeTimeout => ?_
  refine spans_half.all 5 fun openTimeout => spans_half.all 3 fun minOpen => spans_byte.all 2 fun demouldTries => ?_
  refine spans_half.all 0 fun strokeTimeout rest none => ?_
  obtain rfl := List.length_eq_zero_iff.mp none
  refine ⟨⟨name, nominal, tolerance, potLife, segmentCount, restSegment, segments, offsets, readyBand, bandCount,
    bands, cureTarget, minCure, maxCure, overcure, autoOpen, closeTimeout, openTimeout, minOpen, demouldTries,
    strokeTimeout⟩, ?_⟩
  unfold RawRecipe.bytes
  simp only [List.append_assoc, List.append_nil]
  rfl

/-! ## The layouts of the requests (R205) -/

open Laws in
/-- Every well-formed request has a body of an accepted length (R193, R205). -/
theorem wire (i : Instr) : Wire.Statement i := by
  cases i with
  | identify => apply Wire.identify
  | cellStatus => apply Wire.cellStatus
  | restart => apply Wire.restart
  | setClock => apply Wire.setClock
  | readClock => apply Wire.readClock
  | readEvents => apply Wire.readEvents
  | maskEvents => apply Wire.maskEvents
  | getSetting => apply Wire.getSetting
  | setSetting => apply Wire.setSetting
  | setTuning => apply Wire.setTuning
  | writeRecipe => apply Wire.writeRecipe
  | readRecipe => apply Wire.readRecipe
  | assignRecipe => apply Wire.assignRecipe
  | setHeatMode => apply Wire.setHeatMode
  | readZones => apply Wire.readZones
  | clearZone => apply Wire.clearZone
  | disableZone => apply Wire.disableZone
  | enableZone => apply Wire.enableZone
  | postOrder => apply Wire.postOrder
  | cancelOrder => apply Wire.cancelOrder
  | zeroScale => apply Wire.zeroScale
  | readScale => apply Wire.readScale
  | load => apply Wire.load
  | close => apply Wire.close
  | openPress => apply Wire.openPress
  | abort => apply Wire.abort
  | release => apply Wire.release
  | clearFault => apply Wire.clearFault
  | readPress => apply Wire.readPress
  | readHistory => apply Wire.readHistory
  | collect => apply Wire.collect
  | annotate => apply Wire.annotate
  | readOpen => apply Wire.readOpen
  | store => apply Wire.store
  | snapshotCounters => apply Wire.snapshotCounters
  | readCounters => apply Wire.readCounters
  | _ => exact Wire.of_event rfl

/-- A request read back from its frame is itself. -/
theorem parse_request {i : Instr} {kind tag : Byte} {body : List Byte} (wf : i.wellFormed = true)
    (e : i.request? = some (kind, tag, body)) : parseRequest kind tag body = some i := by
  cases i with
  | setClock _ seconds => cases e; exact congrArg (fun w => some (Instr.setClock tag w)) (wordOf_wordBytes seconds)
  | maskEvents _ mode kinds => cases e; exact if_pos (of_decide_eq_true wf)
  | setSetting _ ident value =>
    cases e; exact congrArg (fun w => some (Instr.setSetting tag ident w)) (wordOf_wordBytes value)
  | writeRecipe _ slot r =>
    cases e
    change (parseRecipe r.bytes).map (Instr.writeRecipe tag slot) = _
    rw [parseRecipe_bytes]
    rfl
  | setHeatMode _ press mode standby held =>
    cases e; exact congrArg (fun h => some (Instr.setHeatMode tag press mode h held)) (halfOf_halfBytes standby)
  | load _ press serial => cases e; exact congrArg (fun w => some (Instr.load tag press w)) (wordOf_wordBytes serial)
  | readHistory _ start count =>
    cases e; exact congrArg (fun h => some (Instr.readHistory tag h count)) (halfOf_halfBytes start)
  | collect _ n => cases e; exact congrArg (fun h => some (Instr.collect tag h)) (halfOf_halfBytes n)
  | annotate _ serial result inspector =>
    cases e; exact congrArg (fun w => some (Instr.annotate tag w result inspector)) (wordOf_wordBytes serial)
  | readOpen _ serial => cases e; exact congrArg (fun w => some (Instr.readOpen tag w)) (wordOf_wordBytes serial)
  | _ => cases e <;> rfl

theorem lengthAccepted_iff {kind : Byte} {n : Nat} :
    lengthAccepted kind n = true ↔ ∃ lo hi, bodyLengths kind = some (lo, hi) ∧ lo ≤ n ∧ n ≤ hi := by
  unfold lengthAccepted
  cases bodyLengths kind with
  | none => simp
  | some range =>
    obtain ⟨lo, hi⟩ := range
    simp [and_assoc]

/-- A well-formed request of this kind and tag has this body. -/
def Spelled (kind tag : Byte) (body : List Byte) : Prop :=
  ∃ i : Instr, i.wellFormed = true ∧ i.request? = some (kind, tag, body)

section Bodies

variable {kind tag : Byte} {body : List Byte} {k : Nat}

theorem Spelled.of_request (e : kind.toNat = k) {i : Instr} (wf : i.wellFormed = true)
    (h : i.request? = some (BitVec.ofNat 8 k, tag, body)) : Spelled kind tag body :=
  ⟨i, wf, by rw [h, ← e, BitVec.ofNat_toNat, BitVec.setWidth_eq]⟩

/-- A body of one length, which is that of a request's layout. -/
theorem Spelled.of_layout {n : Nat} (e : kind.toNat = k) (least : n ≤ body.length) (most : body.length ≤ n)
    (h : ∀ bytes : List Byte, bytes.length = n →
      ∃ i : Instr, i.wellFormed = true ∧ i.request? = some (BitVec.ofNat 8 k, tag, bytes)) : Spelled kind tag body := by
  obtain ⟨i, wf, hi⟩ := h body (Nat.le_antisymm most least)
  exact .of_request e wf hi

/-- Every kind's layout covers all the bodies of its lengths. -/
theorem spelled_of_lengths {lo hi : Nat} (h : bodyLengths kind = some (lo, hi)) (least : lo ≤ body.length)
    (most : body.length ≤ hi) : Spelled kind tag body := by
  unfold bodyLengths at h
  split at h <;> cases h
  next e => exact .of_layout e least most (all_nil ⟨.identify tag, rfl, rfl⟩)
  next e => exact .of_layout e least most (all_nil ⟨.cellStatus tag, rfl, rfl⟩)
  next e => exact .of_layout e least most (all_nil ⟨.restart tag, rfl, rfl⟩)
  next e => exact .of_layout e least most (spans_word.all 0 fun seconds => all_nil ⟨.setClock tag seconds, rfl, rfl⟩)
  next e => exact .of_layout e least most (all_nil ⟨.readClock tag, rfl, rfl⟩)
  next e => exact .of_layout e least most (all_nil ⟨.readEvents tag, rfl, rfl⟩)
  next e =>
    obtain ⟨mode, kinds, rfl⟩ := List.exists_cons_of_length_pos least
    exact .of_request e (i := .maskEvents tag mode kinds) (decide_eq_true (Nat.le_of_succ_le_succ most)) rfl
  next e => exact .of_layout e least most (spans_byte.all 0 fun ident => all_nil ⟨.getSetting tag ident, rfl, rfl⟩)
  next e =>
    refine .of_layout e least most (spans_byte.all 4 fun ident => spans_word.all 0 fun value => ?_)
    exact all_nil ⟨.setSetting tag ident value, rfl, rfl⟩
  next e =>
    refine .of_layout e least most (spans_byte.all 2 fun zone => spans_byte.all 1 fun kp => ?_)
    refine spans_byte.all 0 fun ki => ?_
    exact all_nil ⟨.setTuning tag zone kp ki, rfl, rfl⟩
  next e =>
    obtain ⟨slot, record, rfl⟩ := List.exists_cons_of_length_pos (Nat.lt_of_lt_of_le (by decide) least)
    obtain ⟨r, rfl⟩ := exists_recipe record (Nat.succ.inj (Nat.le_antisymm most least))
    exact .of_request e (i := .writeRecipe tag slot r) rfl rfl
  next e => exact .of_layout e least most (spans_byte.all 0 fun slot => all_nil ⟨.readRecipe tag slot, rfl, rfl⟩)
  next e =>
    refine .of_layout e least most (spans_byte.all 1 fun press => spans_byte.all 0 fun slot => ?_)
    exact all_nil ⟨.assignRecipe tag press slot, rfl, rfl⟩
  next e =>
    refine .of_layout e least most (spans_byte.all 4 fun press => spans_byte.all 3 fun mode => ?_)
    refine spans_half.all 1 fun standby => spans_byte.all 0 fun held => ?_
    exact all_nil ⟨.setHeatMode tag press mode standby held, rfl, rfl⟩
  next e => exact .of_layout e least most (spans_byte.all 0 fun press => all_nil ⟨.readZones tag press, rfl, rfl⟩)
  next e => exact .of_layout e least most (spans_byte.all 0 fun zone => all_nil ⟨.clearZone tag zone, rfl, rfl⟩)
  next e => exact .of_layout e least most (spans_byte.all 0 fun zone => all_nil ⟨.disableZone tag zone, rfl, rfl⟩)
  next e => exact .of_layout e least most (spans_byte.all 0 fun zone => all_nil ⟨.enableZone tag zone, rfl, rfl⟩)
  next e =>
    refine .of_layout e least most (spans_byte.all 1 fun orderTag => spans_byte.all 0 fun press => ?_)
    exact all_nil ⟨.postOrder tag orderTag press, rfl, rfl⟩
  next e =>
    exact .of_layout e least most (spans_byte.all 0 fun orderTag => all_nil ⟨.cancelOrder tag orderTag, rfl, rfl⟩)
  next e => exact .of_layout e least most (all_nil ⟨.zeroScale tag, rfl, rfl⟩)
  next e => exact .of_layout e least most (all_nil ⟨.readScale tag, rfl, rfl⟩)
  next e =>
    refine .of_layout e least most (spans_byte.all 4 fun press => spans_word.all 0 fun serial => ?_)
    exact all_nil ⟨.load tag press serial, rfl, rfl⟩
  next e => exact .of_layout e least most (spans_byte.all 0 fun press => all_nil ⟨.close tag press, rfl, rfl⟩)
  next e => exact .of_layout e least most (spans_byte.all 0 fun press => all_nil ⟨.openPress tag press, rfl, rfl⟩)
  next e => exact .of_layout e least most (spans_byte.all 0 fun press => all_nil ⟨.abort tag press, rfl, rfl⟩)
  next e => exact .of_layout e least most (spans_byte.all 0 fun press => all_nil ⟨.release tag press, rfl, rfl⟩)
  next e => exact .of_layout e least most (spans_byte.all 0 fun press => all_nil ⟨.clearFault tag press, rfl, rfl⟩)
  next e => exact .of_layout e least most (spans_byte.all 0 fun press => all_nil ⟨.readPress tag press, rfl, rfl⟩)
  next e =>
    refine .of_layout e least most (spans_half.all 1 fun start => spans_byte.all 0 fun count => ?_)
    exact all_nil ⟨.readHistory tag start count, rfl, rfl⟩
  next e => exact .of_layout e least most (spans_half.all 0 fun n => all_nil ⟨.collect tag n, rfl, rfl⟩)
  next e =>
    refine .of_layout e least most (spans_word.all 2 fun serial => spans_byte.all 1 fun result => ?_)
    refine spans_byte.all 0 fun inspector => ?_
    exact all_nil ⟨.annotate tag serial result inspector, rfl, rfl⟩
  next e => exact .of_layout e least most (spans_word.all 0 fun serial => all_nil ⟨.readOpen tag serial, rfl, rfl⟩)
  next e => exact .of_layout e least most (all_nil ⟨.store tag, rfl, rfl⟩)
  next e =>
    refine .of_layout e least most (spans_byte.all 1 fun press => spans_byte.all 0 fun clear => ?_)
    exact all_nil ⟨.snapshotCounters tag press clear, rfl, rfl⟩
  next e => exact .of_layout e least most (spans_byte.all 0 fun press => all_nil ⟨.readCounters tag press, rfl, rfl⟩)

end Bodies

/-- Settles O6: a layout's bytes are read as they are written, and cover every body of their length. -/
theorem requestsAndTheirFramesSpellEachOther : Obligations.RequestsAndTheirFramesSpellEachOther := by
  unfold Obligations.RequestsAndTheirFramesSpellEachOther
  refine ⟨fun kind tag body accepted => ?_, fun i kind tag body wf e => ?_⟩
  · obtain ⟨lo, hi, lengths, least, most⟩ := lengthAccepted_iff.mp accepted
    obtain ⟨i, wf, e⟩ : Spelled kind tag body := spelled_of_lengths lengths least most
    have parsed := parse_request wf e
    refine ⟨i, parsed, wf, e, fun j wf' e' => ?_⟩
    exact Option.some.inj ((parse_request wf' e').symm.trans parsed)
  · obtain ⟨accepted, short⟩ := wire i wf kind tag body e
    exact ⟨short, accepted, parse_request wf e⟩

end Sys2Proof.Machine.HostLink

/-!
PROOF. What the line brings: damaged frames (O4), good and over-length frames (O5), and a request command as its frame
arriving (O7).
-/

namespace Sys2Proof.Machine.HostLink

/-! ## Frames that are only counted (R189 to R191) -/

theorem satAdd_one (n : Nat) : satAdd 65535 n 1 = min 65535 (n + 1) := by
  unfold satAdd
  split <;> omega

theorem discardFrame_eq (s : State) :
    s.discardFrame = { s with link := { s.link with discarded := min 65535 (s.link.discarded + 1) } } := by
  rw [← satAdd_one]
  rfl

/-- An event of the line, while the Link Port receives. -/
theorem lineEvent_receives {s : State} (receives : s.phase.receives = true) (act : State → State) :
    lineEvent s act = (act s).pump := if_pos receives

/-- A byte heard: the receiver takes it, and what it has judged is dealt with (R189). -/
theorem hearByte_of_take {s : State} {b : Byte} {r : Receiver} {h : Option Heard}
    (e : s.link.receiver.take b = (r, h)) :
    s.hearByte b = { s with link := { s.link with receiver := r } }.acceptHeard h := by
  have heard : s.hearByte b =
      { s with link := { s.link with receiver := (s.link.receiver.take b).1 } }.acceptHeard
        (s.link.receiver.take b).2 := rfl
  rw [heard, e]

theorem receiver_self {s : State} {r : Receiver} (h : s.link.receiver = r) :
    { s with link := { s.link with receiver := r } } = s := State.modLink_receiver s r h

theorem hearByte_hunting {s : State} (h : s.link.receiver = .hunting) (b : Byte) :
    s.hearByte b = if b = 0xA5 then { s with link := { s.link with receiver := .assembling [] } } else s := by
  have take : s.link.receiver.take b = if b = 0xA5 then (.assembling [], none) else (.hunting, none) := by rw [h]; rfl
  split
  · next start => rw [if_pos start] at take; exact hearByte_of_take take
  · next other => rw [if_neg other] at take; exact (hearByte_of_take take).trans (receiver_self h)

theorem hearByte_skipping {s : State} (h : s.link.receiver = .skipping) (b : Byte) : s.hearByte b = s := by
  have take : s.link.receiver.take b = (.skipping, none) := by rw [h]; rfl
  exact (hearByte_of_take take).trans (receiver_self h)

/-- Once a frame is skipped, the bytes that follow come to nothing (R191). -/
theorem hear_skipping {s : State} (h : s.link.receiver = .skipping) (bytes : List Byte) : s.hear bytes = s := by
  unfold State.hear
  induction bytes with
  | nil => rfl
  | cons b rest ih => rw [List.foldl_cons, hearByte_skipping h, ih]

/-- A framing error abandons a frame in assembly, and nothing else (R189). -/
theorem abandonFrame_eq (s : State) :
    s.abandonFrame =
      match s.link.receiver with
      | .assembling _ =>
        { s with link := { s.link with receiver := .hunting, discarded := min 65535 (s.link.discarded + 1) } }
      | .skipping => s
      | .hunting => s := by
  unfold State.abandonFrame
  cases s.link.receiver with
  | assembling got => exact discardFrame_eq _
  | hunting => rfl
  | skipping => rfl

theorem gap_eq (s : State) :
    s.gap =
      match s.link.receiver with
      | .assembling _ =>
        { s with link := { s.link with receiver := .hunting, discarded := min 65535 (s.link.discarded + 1) } }
      | .skipping => { s with link := { s.link with receiver := .hunting } }
      | .hunting => s := by
  unfold State.gap
  rw [abandonFrame_eq]
  cases h : s.link.receiver with
  | assembling got => rfl
  | hunting => exact State.modLink_receiver s .hunting h
  | skipping => rfl

/-- Settles O4: a frame heard with its CRC, byte by byte, and abandoned. -/
theorem damagedFramesAreOnlyCounted : Obligations.DamagedFramesAreOnlyCounted := by
  unfold Obligations.DamagedFramesAreOnlyCounted
  refine ⟨⟨by decide +kernel, fun s kind tag body crc receives hunting short mismatch => ?_⟩,
    fun s b => ⟨fun hunting => hearByte_hunting hunting b, fun skipping => hearByte_skipping skipping b⟩,
    fun s bytes receives => ⟨?_, ?_⟩⟩
  · refine congrArg Host.Outcome.next ((lineEvent_receives receives _).trans ?_)
    dsimp only
    rw [State.hear_bad short hunting mismatch, discardFrame_eq]
  · refine congrArg Host.Outcome.next ((lineEvent_receives receives _).trans ?_)
    dsimp only
    rw [gap_eq, State.hear_eq]
    cases (s.hear bytes).link.receiver <;> rfl
  · refine congrArg Host.Outcome.next ((lineEvent_receives receives _).trans ?_)
    dsimp only
    rw [abandonFrame_eq, State.hear_eq]
    cases (s.hear bytes).link.receiver <;> rfl

/-! ## Frames that are judged (R191 to R193) -/

/-- A frame answered by the Link Port's own checks, once the transmitter has taken the answer. -/
theorem pump_answerAtOnce {s : State} (receives : s.phase.receives = true) (kind tag : Byte) (body : List Byte)
    (st : Status) : (s.answerAtOnce kind tag body st).pump = s.repliedTo kind tag body st [] := by
  have handed := State.pump_answer (s := s.modLink fun l => { l with inHand := some ⟨kind, tag, body, .handed⟩ })
    (Phase.notices_of_receives receives) rfl st []
  exact handed

/-- A good frame, as R192 and R193 deal with it. -/
theorem pump_goodFrame {s : State} (receives : s.phase.receives = true) (kind tag : Byte) (body : List Byte) :
    (s.goodFrame kind tag body).pump =
      if s.link.inHand.isSome then
        { s with link := { s.link with discarded := min 65535 (s.link.discarded + 1) } }.pump
      else if s.phase = .recalling ∨ s.phase = .waiting then s.repliedTo kind tag body .starting []
      else if bodyLengths kind = none then s.repliedTo kind tag body .unknownKind []
      else if lengthAccepted kind body.length = false then s.repliedTo kind tag body .badLength []
      else { s with link := { s.link with inHand := some ⟨kind, tag, body, .handed⟩ } }.pump := by
  have known : (!kindKnown kind) = true ↔ bodyLengths kind = none := by simp [kindKnown]
  have accepted : (!lengthAccepted kind body.length) = true ↔ lengthAccepted kind body.length = false := by simp
  unfold State.goodFrame
  simp only [known, accepted, Phase.starting_iff, apply_ite State.pump, pump_answerAtOnce receives, discardFrame_eq]
  rfl

/-- The bytes of a frame with a length byte above 240, heard from HUNTING: judged at the tag (R191). -/
theorem hear_overLength {s : State} (hunting : s.link.receiver = .hunting) {len : Byte} (long : 240 < len.toNat)
    (kind tag : Byte) (rest : List Byte) :
    s.hear (startByte :: len :: kind :: tag :: rest) =
      { s with link := { s.link with receiver := .skipping } }.overLengthFrame kind tag := by
  have judged : judge [len, kind, tag] = (.skipping, some (.overLength kind tag)) := if_pos long
  have start : s.hearByte startByte = { s with link := { s.link with receiver := .assembling [] } } :=
    (hearByte_hunting hunting _).trans (if_pos rfl)
  have assembled (got : List Byte) (b : Byte) {r : Receiver} {h : Option Heard} (e : judge (got ++ [b]) = (r, h)) :
      { s with link := { s.link with receiver := .assembling got } }.hearByte b =
        { s with link := { s.link with receiver := r } }.acceptHeard h := hearByte_of_take e
  have skipping : ({ s with link := { s.link with receiver := .skipping } }.overLengthFrame kind tag).link.receiver =
      .skipping := by
    unfold State.overLengthFrame
    split <;> rfl
  unfold State.hear
  rw [List.foldl_cons, List.foldl_cons, List.foldl_cons, List.foldl_cons, start, assembled [] len rfl]
  exact (congrArg (fun t : State => t.hear rest) (assembled [len, kind] tag judged)).trans (hear_skipping skipping rest)

/-- An over-length frame of a kind that is known is answered while no request is in hand, and counted otherwise
(R191). -/
theorem pump_overLengthFrame {s : State} (receives : s.phase.receives = true) (kind tag : Byte) :
    (s.overLengthFrame kind tag).pump =
      if (bodyLengths kind).isSome ∧ s.link.inHand = none then
        s.repliedTo kind tag [] (if s.phase = .recalling ∨ s.phase = .waiting then .starting else .badLength) []
      else { s with link := { s.link with discarded := min 65535 (s.link.discarded + 1) } }.pump := by
  have answered : (kindKnown kind && !s.link.inHand.isSome) = true ↔
      (bodyLengths kind).isSome ∧ s.link.inHand = none := by simp [kindKnown]
  unfold State.overLengthFrame
  simp only [answered, Phase.starting_iff, apply_ite State.pump, pump_answerAtOnce receives, discardFrame_eq]

/-- Settles O5: the frame is heard whole, or to its tag byte, and then judged. -/
theorem goodAndOverLengthFramesAreCheckedAndHandedOn : Obligations.GoodAndOverLengthFramesAreCheckedAndHandedOn := by
  unfold Obligations.GoodAndOverLengthFramesAreCheckedAndHandedOn
  refine ⟨fun s kind tag body receives hunting short => ?_, fun s len kind tag rest receives hunting long => ?_⟩
  · refine congrArg Host.Outcome.next ((lineEvent_receives receives _).trans ?_)
    dsimp only
    rw [State.hear_good short hunting]
    exact pump_goodFrame receives kind tag body
  · refine congrArg Host.Outcome.next ((lineEvent_receives receives _).trans ?_)
    dsimp only
    rw [hear_overLength hunting long]
    exact pump_overLengthFrame (s := { s with link := { s.link with receiver := .skipping } }) receives kind tag

/-! ## A request command that is its frame arriving (R189, R192, R193; log entry 4) -/

section Arriving

variable {s : State} {kind tag : Byte} {body : List Byte} {own : State → State}

/-- A request that is not in hand is heard, when the Link Port receives. -/
theorem serve_not_held (h : ¬ s.holds kind tag body) :
    s.serve kind tag body own =
      if s.phase.receives then
        if (s.hear (frameBytes kind tag body)).holdsNow kind tag body then
          (s.hear (frameBytes kind tag body)).taken own
        else (s.hear (frameBytes kind tag body)).pump
      else s := if_neg (mt (State.holdsNow_iff ..).mp h)

/-- A frame that is heard and not handed over: no owner acts on it. -/
theorem serve_not_handed (receives : s.phase.receives = true) (hunting : s.link.receiver = .hunting)
    (short : body.length ≤ 240) (h : ¬ s.holds kind tag body)
    (left : ¬ (s.goodFrame kind tag body).holds kind tag body) :
    s.serve kind tag body own = (s.goodFrame kind tag body).pump := by
  rw [serve_not_held h, if_pos receives, State.hear_good short hunting, if_neg (mt (State.holdsNow_iff ..).mp left)]

/-- The state in which this request is in hand and waits for its owner. -/
def withRequest (s : State) (kind tag : Byte) (body : List Byte) : State :=
  { s with link := { s.link with inHand := some ⟨kind, tag, body, .handed⟩ } }

theorem bodyLengths_of_accepted {n : Nat} (h : lengthAccepted kind n = true) : bodyLengths kind ≠ none := by
  obtain ⟨lo, hi, lengths, -⟩ := lengthAccepted_iff.mp h
  rw [lengths]
  nofun

/-- While the part works and no request is in hand, a request's frame makes it the request in hand (R193). -/
theorem goodFrame_handed (running : s.phase = .running) (free : s.link.inHand = none)
    (accepted : lengthAccepted kind body.length = true) : s.goodFrame kind tag body = withRequest s kind tag body := by
  have known : kindKnown kind = true := Option.isSome_iff_ne_none.mpr (bodyLengths_of_accepted accepted)
  unfold State.goodFrame
  rw [free, running, known, accepted]
  rfl

/-- And its owner acts on it at once. -/
theorem serve_handed (running : s.phase = .running) (hunting : s.link.receiver = .hunting)
    (free : s.link.inHand = none) (short : body.length ≤ 240) (accepted : lengthAccepted kind body.length = true) :
    s.serve kind tag body own = (withRequest s kind tag body).serve kind tag body own := by
  have held : (withRequest s kind tag body).holds kind tag body := ⟨running, rfl⟩
  have unheld : ¬ s.holds kind tag body := fun h => by
    obtain ⟨-, inHand⟩ := h
    rw [free] at inHand
    cases inHand
  rw [serve_not_held unheld, State.hear_good short hunting, goodFrame_handed running free accepted,
    State.serve_of_holds held, if_pos ((State.holdsNow_iff ..).mpr held), running]
  rfl

end Arriving

/-- Settles O7: the frame heard is handed to its owner, answered STARTING, or counted. -/
theorem aRequestCommandIsItsFrameArriving : Obligations.ARequestCommandIsItsFrameArriving := by
  unfold Obligations.ARequestCommandIsItsFrameArriving
  intro i kind tag body s wf e
  obtain ⟨own, -, served⟩ := exec_request e
  obtain ⟨accepted, short⟩ := wire i wf kind tag body e
  have idle {t : State} (h : t.phase ≠ .running) : ¬ t.holds kind tag body := fun held => h held.1
  refine ⟨fun deaf => ?_, fun running hunting free => ?_, fun starting hunting free => ?_,
    fun receives hunting busy unheld => ?_⟩
  · have notRunning : s.phase ≠ .running := fun running => by rw [running] at deaf; cases deaf
    rw [served, serve_not_held (idle notRunning), deaf]
    rfl
  · rw [served, serve_handed running hunting free short accepted, ← served]
    rfl
  · have receives : s.phase.receives = true := by rcases starting with h | h <;> rw [h] <;> rfl
    have notRunning : s.phase ≠ .running := by rcases starting with h | h <;> rw [h] <;> nofun
    have left : (s.goodFrame kind tag body).phase ≠ .running := by rw [State.goodFrame_eq]; exact notRunning
    rw [served, serve_not_handed receives hunting short (idle notRunning) (idle left), pump_goodFrame receives,
      if_neg (by rw [free]; nofun), if_pos starting]
  · have counted : s.goodFrame kind tag body = s.discardFrame := if_pos busy
    rw [served, serve_not_handed receives hunting short unheld (by rw [counted]; exact unheld),
      counted, discardFrame_eq]

end Sys2Proof.Machine.HostLink

/-!
PROOF. What the Link Port sends: replies before notices (O8), the sent reply and RESTART (O9), raised kinds (O10), the
event requests (O11), and the two cell messages that only report (O12).
-/

namespace Sys2Proof.Machine.HostLink

open ChargeWeighing

/-! ## The transmitter (R195, R198) -/

theorem notices_iff (f : Phase) : f.notices = true ↔ f = .running ∨ f = .recalling ∨ f = .waiting ∨ f = .held := by
  cases f <;> simp [Phase.notices]

section Transmitter

variable {l : Link}

theorem startFrame_busy (h : l.transmission.isSome) : l.startFrame = l := by
  obtain ⟨x, hx⟩ := Option.isSome_iff_exists.mp h
  unfold Link.startFrame
  rw [hx]

theorem startFrame_reply (free : l.transmission = none) {f : Frame} (h : l.reply = some f) :
    l.startFrame = { l with transmission := some ⟨f, .reply, l.rate⟩, reply := none } := by
  unfold Link.startFrame
  rw [free, h]

theorem startFrame_idle (free : l.transmission = none) (quiet : l.reply = none) (h : l.noticeWaiting = false) :
    l.startFrame = l := by
  unfold Link.startFrame
  rw [free, quiet, h]
  rfl

theorem startFrame_notice (free : l.transmission = none) (quiet : l.reply = none) (h : l.noticeWaiting = true) :
    l.startFrame =
      if l.noticeBody = [] then { l with noticeWaiting := false, notice := false }
      else { l with transmission := some ⟨⟨0xC0, 0, l.noticeBody⟩, .notice, l.rate⟩, noticeWaiting := false } := by
  unfold Link.startFrame
  rw [free, quiet, h]
  rfl

/-- The sources that hold an enabled pending kind, in ascending order (R198). -/
def noticeSources (l : Link) : List (Fin 6) :=
  (List.finRange 6).filter fun i => (l.pending.get i).any fun k => decide (k ∈ l.mask)

theorem noticeBody_eq (l : Link) : l.noticeBody = (noticeSources l).map fun j => BitVec.ofNat 8 j.val := rfl

theorem mem_noticeSources (j : Fin 6) : j ∈ noticeSources l ↔ ∃ m ∈ l.pending.get j, m ∈ l.mask := by
  simp [noticeSources]

theorem noticeSources_ascend (l : Link) : (noticeSources l).Pairwise (· < ·) :=
  (List.pairwise_lt_finRange 6).filter _

end Transmitter

/-- Settles O8: `startFrame` case by case, in the phases that start frames. -/
theorem aFreeTransmitterSendsTheReplyBeforeTheNotice : Obligations.AFreeTransmitterSendsTheReplyBeforeTheNotice := by
  unfold Obligations.AFreeTransmitterSendsTheReplyBeforeTheNotice
  intro s
  refine ⟨fun running recalling waiting held => ?_, fun phase => ?_⟩
  · exact if_neg (mt (notices_iff s.phase).mp (by simp [running, recalling, waiting, held]))
  rw [RetainedMemory.pump_starts ((notices_iff s.phase).mpr phase)]
  refine ⟨fun busy => by rw [startFrame_busy busy], fun free => ⟨fun f waits => by rw [startFrame_reply free waits],
    fun quiet none => by rw [startFrame_idle free quiet none], fun quiet waits => ?_⟩⟩
  rw [startFrame_notice free quiet waits, noticeBody_eq]
  refine ⟨fun masked => ?_, fun i k pending enabled => ?_⟩
  · have none : noticeSources s.link = [] := List.eq_nil_iff_forall_not_mem.mpr fun j hj => by
      obtain ⟨m, hm, enabled⟩ := (mem_noticeSources j).mp hj
      exact masked j m hm enabled
    rw [none]
    rfl
  · have named : i ∈ noticeSources s.link := (mem_noticeSources i).mpr ⟨k, pending, enabled⟩
    refine ⟨noticeSources s.link, noticeSources_ascend _, mem_noticeSources, ?_⟩
    rw [if_neg (mt List.map_eq_nil_iff.mp (List.ne_nil_of_mem named))]

/-! ## A frame that has been sent, and RESTART (R195, R202) -/

section Sent

variable {s : State} {x : Transmission}

theorem transmitComplete_pumps (h : s.link.sendsRestartReply = false) :
    exec .transmitComplete s = .next (s.modLink Link.sent).pump := by
  have e : exec .transmitComplete s =
      .next (if s.link.sendsRestartReply && decide (s.phase = .running) then
          (s.modLink Link.sent).beginWarm.completeWarm.pump else (s.modLink Link.sent).pump) := rfl
  rw [e, h]
  rfl

theorem sent_reply (h : s.link.transmission = some x) (reply : x.what = .reply) :
    s.modLink Link.sent = { s with link := { s.link with transmission := none, inHand := none } } := by
  rw [State.modLink_eq, Link.sent, h]
  dsimp only
  rw [reply]

theorem sent_other (h : s.link.transmission = some x) (other : x.what ≠ .reply) :
    s.modLink Link.sent = { s with link := { s.link with transmission := none } } := by
  rw [State.modLink_eq, Link.sent, h]
  dsimp only
  cases e : x.what with
  | reply => exact (other e).elim
  | orphan => rfl
  | notice => rfl

theorem sendsRestartReply_iff (l : Link) :
    l.sendsRestartReply = true ↔
      ∃ x h, l.transmission = some x ∧ l.inHand = some h ∧ x.what = .reply ∧ h.stage = .restarting := by
  unfold Link.sendsRestartReply
  cases l.transmission with
  | none => simp
  | some x => cases l.inHand <;> simp

end Sent

/-- The Link Port with RESTART taken and its reply waiting, before the transmitter looks at it (R202). -/
def restartTaken (l : Link) (tag : Byte) : Link :=
  { l with inHand := some ⟨0x03, tag, [], .restarting⟩, reply := some ⟨0x03 + 0x80, tag, [Status.ok.code]⟩ }

theorem ownRestart_eq {s : State} {tag : Byte} (h : s.link.inHand = some ⟨0x03, tag, [], .handed⟩) :
    ownRestart s = { s with link := restartTaken s.link tag } := by
  rw [ownRestart, State.answer, h]
  rfl

theorem startFrame_restartTaken (l : Link) (tag : Byte) :
    (restartTaken l tag).startFrame =
      { l.repliedTo 0x03 tag [] .ok [] with inHand := some ⟨0x03, tag, [], .restarting⟩ } := by
  unfold Link.repliedTo Link.withReply
  cases free : l.transmission with
  | none => exact startFrame_reply (l := restartTaken l tag) free rfl
  | some x =>
    have busy : (restartTaken l tag).startFrame = restartTaken l tag :=
      startFrame_busy (Option.isSome_iff_exists.mpr ⟨x, free⟩)
    rw [busy, restartTaken, free]

/-- RESTART is answered OK, and stays in hand as a RESTART taken (R202). -/
theorem taken_restart {s : State} {tag : Byte} (held : s.holds 0x03 tag []) :
    s.taken ownRestart =
      { s with
        link := { s.link.repliedTo 0x03 tag [] .ok [] with inHand := some ⟨0x03, tag, [], .restarting⟩ } } := by
  obtain ⟨running, inHand⟩ := held
  have own := ownRestart_eq inHand
  have unmoved : oneChange s (ownRestart s) = ownRestart s := oneChange_of (.inl (by rw [own]))
  rw [State.taken, unmoved, own, ← startFrame_restartTaken]
  exact RetainedMemory.pump_starts ((notices_iff s.phase).mpr (.inl running))

/-- Settles O9: what `sent` leaves, and the reply to RESTART. -/
theorem restartIsRepliedAndTheSentReplyResets : Obligations.RestartIsRepliedAndTheSentReplyResets := by
  unfold Obligations.RestartIsRepliedAndTheSentReplyResets
  refine ⟨fun s => ⟨fun idle => ?_, fun x sending => ⟨fun other => ?_, fun reply staying => ?_,
    fun reply ⟨h, inHand, restarting⟩ running => ?_⟩⟩, fun s tag held => ?_⟩
  · have none : s.modLink Link.sent = s := by rw [State.modLink_eq, Link.sent, idle]
    have quiet : s.link.sendsRestartReply = false := by rw [Link.sendsRestartReply, idle]
    rw [transmitComplete_pumps quiet, none]
  · have quiet : s.link.sendsRestartReply = false := Bool.eq_false_iff.mpr fun sends => by
      obtain ⟨y, h, sent, -, reply, -⟩ := (sendsRestartReply_iff _).mp sends
      rw [sending] at sent
      cases sent
      exact other reply
    rw [transmitComplete_pumps quiet, sent_other sending other]
  · have quiet : s.link.sendsRestartReply = false := Bool.eq_false_iff.mpr fun sends => by
      obtain ⟨y, h, -, inHand, -, restarting⟩ := (sendsRestartReply_iff _).mp sends
      exact staying h inHand restarting
    rw [transmitComplete_pumps quiet, sent_reply sending reply]
  · have sends := (sendsRestartReply_iff _).mpr ⟨x, h, sending, inHand, reply, restarting⟩
    have acts : (s.link.sendsRestartReply && decide (s.phase = .running)) = true := by simp [sends, running]
    refine congrArg Host.Outcome.next ((if_pos acts).trans ?_)
    rw [sent_reply sending reply]
  · refine congrArg Host.Outcome.next ((State.serve_of_holds held _).trans ?_)
    exact taken_restart held

/-! ## Raised kinds (R196, R198) -/

theorem offerNotice_eq (l : Link) :
    l.offerNotice = { l with notice := true, noticeWaiting := l.noticeWaiting || !l.notice } := by
  unfold Link.offerNotice
  cases h : l.notice with
  | false => simp
  | true => rw [if_pos rfl]; cases l; simp_all

theorem addKind_nodup (k : EventKind) (set : List EventKind) : (addKind k set).Nodup :=
  List.Nodup.filter _ (by decide)

/-- Settles O10: the kind joins its source's set, and the raise is offered to the notice rule. -/
theorem aRaisedKindJoinsItsSourceOnce : Obligations.ARaisedKindJoinsItsSourceOnce := by
  unfold Obligations.ARaisedKindJoinsItsSourceOnce
  intro s src k
  refine ⟨addKind k (s.link.pending.get src.index), fun j => mem_addKind, addKind_nodup _ _, ?_⟩
  unfold State.raise
  dsimp only
  rw [Tab.modify, Bool.and_assoc]
  cases decide (k ∈ s.link.mask) && s.phase.notices with
  | false => simp
  | true => simp [offerNotice_eq]

/-! ## The event requests (R197 to R199) -/

theorem ofCode_code (k : EventKind) : EventKind.ofCode k.code = some k := by cases k <;> decide

theorem ofCode_none {b : Byte} (h : ∀ k : EventKind, k.code ≠ b) : EventKind.ofCode b = none := by
  rw [EventKind.ofCode, List.find?_eq_none]
  intro k _
  simpa using h k

theorem eventKindsOf_codes (ks : List EventKind) : eventKindsOf (ks.map EventKind.code) = some ks := by
  induction ks with
  | nil => rfl
  | cons k ks ih => rw [List.map_cons, eventKindsOf, ofCode_code, ih]

theorem eventKindsOf_none {bytes : List Byte} (h : ∃ b ∈ bytes, ∀ k : EventKind, k.code ≠ b) :
    eventKindsOf bytes = none := by
  induction bytes with
  | nil => obtain ⟨b, hb, -⟩ := h; cases hb
  | cons a bytes ih =>
    obtain ⟨b, hb, none⟩ := h
    rw [eventKindsOf]
    rcases List.mem_cons.mp hb with rfl | hb
    · rw [ofCode_none none]
    · rw [ih ⟨b, hb, none⟩]
      cases EventKind.ofCode a <;> rfl

theorem maskModeOf_none {b : Byte} (h : b ≠ 1 ∧ b ≠ 2) : maskModeOf b = none := by
  obtain ⟨one, two⟩ := h
  have n1 : b.toNat ≠ 1 := fun e => one (BitVec.eq_of_toNat_eq e)
  have n2 : b.toNat ≠ 2 := fun e => two (BitVec.eq_of_toNat_eq e)
  rw [maskModeOf, if_neg n1, if_neg n2]

theorem ownMaskEvents_refused {mode : Byte} {bytes : List Byte}
    (h : (mode ≠ 1 ∧ mode ≠ 2) ∨ ∃ b ∈ bytes, ∀ k : EventKind, k.code ≠ b) (s : State) :
    ownMaskEvents mode bytes s = s.answer .badValue [] := by
  unfold ownMaskEvents
  rcases h with h | h
  · rw [maskModeOf_none h]
  · rw [eventKindsOf_none h]
    cases maskModeOf mode <;> rfl

theorem mem_toList {α : Type} {n : Nat} {t : Tab α n} {a : α} : a ∈ t.toList ↔ ∃ i, t.get i = a := by
  rw [List.mem_iff_getElem]
  constructor
  · rintro ⟨i, hi, rfl⟩
    exact ⟨⟨i, t.size ▸ hi⟩, rfl⟩
  · rintro ⟨i, rfl⟩
    exact ⟨i.val, t.size.symm ▸ i.isLt, rfl⟩

theorem anyPending_eq (l : Link) (ks : List EventKind) :
    l.anyPending ks = (List.finRange 6).any fun i => ks.any fun k => decide (k ∈ l.pending.get i) := by
  rw [Bool.eq_iff_iff]
  simp only [Link.anyPending, List.any_eq_true, decide_eq_true_eq]
  constructor
  · rintro ⟨set, hset, k, pending, named⟩
    obtain ⟨i, rfl⟩ := mem_toList.mp hset
    exact ⟨i, List.mem_finRange i, k, named, pending⟩
  · rintro ⟨i, -, k, named, pending⟩
    exact ⟨l.pending.get i, mem_toList.mpr ⟨i, rfl⟩, k, pending, named⟩

/-- ENABLE: the kinds join the mask, and a pending one is offered to the notice rule (R197, R198). -/
theorem enable_eq (l : Link) (ks : List EventKind) :
    l.enable ks =
      { l with
        mask := EventKind.all.filter fun k => decide (k ∈ l.mask) || decide (k ∈ ks),
        notice := l.notice || l.anyPending ks,
        noticeWaiting := l.noticeWaiting || (l.anyPending ks && !l.notice) } := by
  have joined : addKinds ks l.mask = EventKind.all.filter fun k => decide (k ∈ l.mask) || decide (k ∈ ks) :=
    List.filter_congr fun _ _ => Bool.or_comm ..
  unfold Link.enable
  rw [joined]
  cases l.anyPending ks with
  | false => simp
  | true => simp [offerNotice_eq]

/-- DISABLE: the kinds leave the mask, and nothing is offered (R197). -/
theorem disable_eq (l : Link) (ks : List EventKind) :
    l.disable ks =
      { l with
        mask := l.mask.filter fun k => !decide (k ∈ ks),
        notice := l.notice || false,
        noticeWaiting := l.noticeWaiting || (false && !l.notice) } := by
  simp [Link.disable, removeKinds]

/-- Settles O11: READ_EVENTS, the refused forms of MASK_EVENTS, then ENABLE and DISABLE. -/
theorem eventsAreReadAndMasked : Obligations.EventsAreReadAndMasked := by
  unfold Obligations.EventsAreReadAndMasked
  refine ⟨fun s tag held => ?_, fun s tag mode bytes held => ⟨fun refused => ?_, fun ks codes named => ?_⟩⟩
  · exact congrArg Host.Outcome.next
      (serve_aside held (u := s.modLink Link.readEvents) (own := ownReadEvents) rfl rfl rfl rfl)
  · exact congrArg Host.Outcome.next (State.serve_answer held (ownMaskEvents_refused refused s))
  · subst codes
    have acts (enable : Bool) (h : maskModeOf mode = some enable) :
        ownMaskEvents mode (ks.map EventKind.code) s =
          (s.modLink fun l => l.masked enable ks).answer .ok (s.link.masked enable ks).maskBytes := by
      rw [ownMaskEvents, h, eventKindsOf_codes]
    have inHand (enable : Bool) : (s.link.masked enable ks).inHand = s.link.inHand :=
      congrArg Prod.fst (raises_masked s enable ks).handling
    rcases named with rfl | rfl
    · refine congrArg Host.Outcome.next ((serve_aside held (acts true rfl) rfl rfl (inHand true)).trans ?_)
      rw [State.modLink_eq, Link.masked, if_pos rfl, enable_eq, anyPending_eq]
      rfl
    · refine congrArg Host.Outcome.next ((serve_aside held (acts false rfl) rfl rfl (inHand false)).trans ?_)
      rw [State.modLink_eq, Link.masked, if_neg Bool.false_ne_true, disable_eq]
      rfl

/-! ## IDENTIFY and CELL_STATUS (R200, R201) -/

theorem resetKind_byte (k : ResetKind) : be8 k.code = [if k = .powerOn then 0 else 1] := by cases k <;> rfl

theorem recallResult_byte (r : RecallResult) : be8 r.code = [if r = .recalled then 0 else 1] := by cases r <;> rfl

theorem memoryState_byte (r : Retained) :
    be8 r.memoryState = [if r.store.isSome then 2 else if r.generation = r.storedGeneration then 0 else 1] := by
  unfold Retained.memoryState Retained.dirty
  split
  · rfl
  · by_cases clean : r.generation = r.storedGeneration <;> simp [clean, be8]

/-- Settles O12: both owners only answer, with their figures. -/
theorem identifyAndCellStatusReplyTheirFigures : Obligations.IdentifyAndCellStatusReplyTheirFigures := by
  unfold Obligations.IdentifyAndCellStatusReplyTheirFigures
  refine ⟨fun s tag held => ?_, fun s tag held => ?_⟩
  · exact congrArg Host.Outcome.next (State.serve_answer held (own := ownIdentify) rfl)
  · refine congrArg Host.Outcome.next (State.serve_answer held (own := ownCellStatus) ?_)
    rw [ownCellStatus, State.statusReport, resetKind_byte, recallResult_byte, memoryState_byte, beBool]
    rfl

end Sys2Proof.Machine.HostLink

/-!
PROOF. No operation of a block touches the commands that wait: the field that a step reads its next command from stays
as it was, through the plant, the presses, the stores, the resets and the power falls.
-/

namespace Sys2Proof.Machine.CommandQueue

open ChargeWeighing PressCycle

/-! ## The presses and their records (R71 to R99, R105, R126) -/

theorem pending_of_records {s t : State} (h : RecordOnly s t) : t.pending = s.pending := by rw [h.eq]

theorem pending_of_press {p : Fin 4} {s t : State} (h : PressOnly p s t) : t.pending = s.pending := by rw [h.eq]

theorem pending_foldl {α : Type} {f : State → α → State} (hf : ∀ t a, (f t a).pending = t.pending) (l : List α)
    (s : State) : (l.foldl f s).pending = s.pending := by
  induction l generalizing s with
  | nil => rfl
  | cons a l ih => rw [List.foldl_cons, ih, hf]

variable (s : State) (p : Fin 4)

@[simp] theorem settled_pending : (s.settled p).pending = s.pending := pending_of_press (.settled s)

@[simp] theorem startToOpen_pending : (s.startToOpen p).pending = s.pending := pending_of_press (.startToOpen s)

@[simp] theorem startClosing_pending : (s.startClosing p).pending = s.pending := pending_of_press (.startClosing s)

@[simp] theorem loadTicket_pending (t : Ticket) : (s.loadTicket p t).pending = s.pending :=
  pending_of_press (.loadTicket s t)

@[simp] theorem markAborted_pending : (s.markAborted p).pending = s.pending := pending_of_press (.markAborted s)

@[simp] theorem abortLoaded_pending : (s.abortLoaded p).pending = s.pending := pending_of_press (.abortLoaded s)

@[simp] theorem releasePart_pending : (s.releasePart p).pending = s.pending := pending_of_press (.releasePart s)

@[simp] theorem writeBound_pending (f : OpenRecord → OpenRecord) : (s.writeBound p f).pending = s.pending :=
  pending_of_records (.writeBound s p f)

@[simp] theorem closeAll_pending (d : Disposition) : (s.closeAll d).pending = s.pending :=
  pending_of_records (.closeAll s d)

@[simp] theorem cutAllShort_pending : s.cutAllShort.pending = s.pending :=
  pending_foldl (fun t p => pending_of_press (.cutShort (p := p) t)) _ s

@[simp] theorem guardFalls_pending : s.guardFalls.pending = s.pending :=
  pending_foldl (fun t p => (oneChange_pending ..).trans (pending_of_press (.guardAt (p := p) t))) _ _

/-! ## The heat and the frame boundary (R2 to R23, R28, R36, R105) -/

@[simp] theorem setMode_pending (m : HeatMode) (standby : Int) (held : Tab Bool 6) :
    (s.setMode p m standby held).pending = s.pending := by
  rw [setMode_eq]

@[simp] theorem raiseZoneFault_pending (z : Fin 24) (found : Option ZoneFault) :
    (s.raiseZoneFault z found).pending = s.pending := by
  unfold State.raiseZoneFault
  split <;> rfl

@[simp] theorem takeReading_pending (z : Fin 24) (x : Reading) : (s.takeReading z x).pending = s.pending :=
  raiseZoneFault_pending ..

theorem readiness_pending : (s.readiness p).pending = s.pending := by
  unfold State.readiness
  dsimp only
  split <;> rfl

theorem zoneBoundary_pending : s.zoneBoundary.pending = s.pending :=
  have faults (t : State) : t.boundaryFaults.pending = t.pending :=
    pending_foldl (fun u i => raiseZoneFault_pending u i _) _ _
  calc s.zoneBoundary.pending
      = s.boundaryReadings.boundarySetpoints.boundaryFaults.boundaryDemands.pending :=
        pending_foldl readiness_pending _ _
    _ = s.pending := faults s.boundaryReadings.boundarySetpoints

theorem chargeShortfall_pending (zones : Tab Zone 24) : (s.chargeShortfall zones p).pending = s.pending := by
  unfold State.chargeShortfall
  dsimp only
  split
  · rfl
  · split
    · exact writeBound_pending ..
    · rfl

theorem allocate_pending : s.allocate.pending = s.pending :=
  pending_foldl (fun t p => chargeShortfall_pending t p _) _ _

@[simp] theorem boundary_pending : s.boundary.pending = s.pending :=
  calc s.boundary.pending
      = s.zoneBoundary.allocate.pending := pending_foldl (fun t p => pending_of_press (.cureBoundary (p := p) t)) _ _
    _ = s.pending := (allocate_pending _).trans (zoneBoundary_pending s)

/-! ## The scale (R43 to R65) -/

@[simp] theorem zeroCapture_pending : s.zeroCapture.pending = s.pending := rfl

theorem autoZero_pending (range : Nat) : (s.autoZero range).pending = s.pending := by
  unfold State.autoZero
  split <;> rfl

theorem takeCheck_pending : s.takeCheck.pending = s.pending := by
  rcases takeCheck_cases s with same | ⟨o, taken, -⟩
  · rw [same]
  · rw [taken, State.modStation_pending]

theorem capture_pending : s.capture.pending = s.pending := by
  unfold State.capture
  split
  · rfl
  · rw [State.historyTest_pending, zeroObligation_eq, State.modStation_pending, judgeCharge_eq]

@[simp] theorem onSample_pending : s.onSample.pending = s.pending := by
  unfold State.onSample
  split
  case h_1 => exact autoZero_pending s _
  case h_2 =>
    rw [takeCheck_pending]
    split
    · exact autoZero_pending s _
    · rfl
  case h_4 =>
    split
    · rfl
    · split
      · exact capture_pending s
      · rfl
  case h_6 => rfl
  all_goals split <;> rfl

@[simp] theorem windowed_pending (count : Count) : (s.windowed count).pending = s.pending := rfl

@[simp] theorem faultSample_pending : s.faultSample.pending = s.pending := by
  unfold State.faultSample
  dsimp only
  split <;> rfl

@[simp] theorem settleExpires_pending : s.settleExpires.pending = s.pending := by
  unfold State.settleExpires
  split <;> rfl

/-! ## Settings, counters and stores (R147 to R150, R170, R180) -/

@[simp] theorem writeSetting_pending (n : Nat) (v : Int) : (s.writeSetting n v).pending = s.pending := by
  unfold State.writeSetting State.settingActs
  split
  · rfl
  · split
    · exact State.historyTest_pending _
    · rfl

@[simp] theorem snapshot_pending (target : Option (Fin 4)) (cleared : Bool) :
    (s.snapshot target cleared).pending = s.pending := by
  unfold State.snapshot
  dsimp only
  split <;> rfl

theorem storeOnceMore_pending : s.storeOnceMore.pending = s.pending := by
  unfold State.storeOnceMore
  split <;> rfl

@[simp] theorem periodicExpires_pending : s.periodicExpires.pending = s.pending := by
  unfold State.periodicExpires
  dsimp only
  split
  · split <;> rfl
  · rfl

/-! ## The line (R189 to R191) -/

@[simp] theorem hear_pending (bytes : List Byte) : (s.hear bytes).pending = s.pending := by rw [State.hear_eq]

@[simp] theorem abandonFrame_pending : s.abandonFrame.pending = s.pending := by rw [State.abandonFrame_eq]

@[simp] theorem gap_pending : s.gap.pending = s.pending := abandonFrame_pending s

/-! ## Power-on, the recall and the resets (R99, R138, R153 to R157) -/

theorem beginRecall_pending : s.beginRecall.pending = s.pending := by
  unfold State.beginRecall
  rw [HeaterPower.countFreeRead_eq]

theorem powerOn_pending : s.powerOn.pending = s.pending := by
  unfold State.powerOn
  dsimp only
  split
  · rfl
  · exact beginRecall_pending _

@[simp] theorem powerOnReset_pending (pfail : Bool) : (s.powerOnReset pfail).pending = s.pending := by
  unfold State.powerOnReset
  dsimp only
  split
  · split
    · exact powerOn_pending _
    · rfl
  · split
    · exact powerOn_pending _
    · exact beginRecall_pending _
  all_goals exact powerOn_pending _

theorem completeReset_pending : s.completeReset.pending = s.pending := by rw [completeReset_eq]

@[simp] theorem completeWarm_pending : s.completeWarm.pending = s.pending := by
  have reset := completeReset_pending s
  unfold State.completeWarm
  generalize s.completeReset = t at reset
  exact reset

theorem recalled_pending : s.recalled.pending = s.pending := by
  unfold State.recalled
  split <;> rfl

theorem raiseStarted_pending : s.raiseStarted.pending = s.pending := by
  obtain ⟨linkOnly, -⟩ := raiseStarted_facts s
  rw [linkOnly]

@[simp] theorem completeRecall_pending : s.completeRecall.pending = s.pending := by
  unfold State.completeRecall State.restartStation
  rw [raiseStarted_pending]
  dsimp only
  rw [completeReset_pending, State.modStation_pending, closeAll_pending, recalled_pending]

@[simp] theorem beginWarm_pending : s.beginWarm.pending = s.pending := by
  have closed : (s.cutAllShort.closeAll .scrapReset).pending = s.pending := by simp
  unfold State.beginWarm
  generalize s.cutAllShort.closeAll .scrapReset = t at closed
  exact closed

/-! ## The power fall (R151, R152) -/

theorem powerFallOn_pending (final fallen : Bool) : (s.powerFallOn final fallen).pending = s.pending := by
  unfold State.powerFallOn State.stop
  dsimp only
  split
  · rfl
  · split
    · exact powerOn_pending _
    · rfl

theorem beginPowerFall_pending : s.beginPowerFall.pending = s.pending := by
  have cut : s.outputsOff.cutAllShort.pending = s.pending := cutAllShort_pending s.outputsOff
  unfold State.beginPowerFall
  generalize s.outputsOff.cutAllShort = t at cut
  dsimp only
  split
  · exact cut
  · exact (powerFallOn_pending ..).trans cut

@[simp] theorem pfailRises_pending : s.pfailRises.pending = s.pending := by
  unfold State.pfailRises
  dsimp only
  split
  · exact beginPowerFall_pending _
  · exact beginPowerFall_pending _
  all_goals rfl

theorem storeCompletes_pending (f : InFlight) : (s.storeCompletes f).pending = s.pending := by
  have finished : (s.finishStore f).pending = s.pending := rfl
  unfold State.storeCompletes
  dsimp only
  split
  · rw [powerFallOn_pending, finished]
  · rw [State.pump_pending, storeOnceMore_pending, finished]
  · rw [State.pump_pending, storeOnceMore_pending, finished]
  all_goals rw [storeOnceMore_pending, finished]

end Sys2Proof.Machine.CommandQueue

/-!
PROOF. Every command answers a next state and leaves the commands that wait alone (O2): the owners of the requests, the
forms a command has, and every command.
-/

namespace Sys2Proof.Machine.CommandQueue

/-! ## The owners of the requests: each refuses with an answer, or acts and answers -/

section Owners

variable (s : State)

theorem ownMaskEvents_pending (mode : Byte) (kinds : List Byte) :
    (ownMaskEvents mode kinds s).pending = s.pending := by
  unfold ownMaskEvents
  split <;> simp

theorem ownGetSetting_pending (ident : Byte) : (ownGetSetting ident s).pending = s.pending := by
  unfold ownGetSetting
  split <;> simp

theorem ownSetSetting_pending (ident : Byte) (value : Word) : (ownSetSetting ident value s).pending = s.pending := by
  unfold ownSetSetting
  repeat' split
  all_goals simp

theorem ownSetTuning_pending (zone kp ki : Byte) : (ownSetTuning zone kp ki s).pending = s.pending := by
  unfold ownSetTuning
  split <;> simp

theorem ownWriteRecipe_pending (slot : Byte) (r : RawRecipe) : (ownWriteRecipe slot r s).pending = s.pending := by
  unfold ownWriteRecipe State.storeRecipe
  repeat' split
  all_goals simp

theorem ownReadRecipe_pending (slot : Byte) : (ownReadRecipe slot s).pending = s.pending := by
  unfold ownReadRecipe
  repeat' split
  all_goals simp

theorem ownAssignRecipe_pending (press slot : Byte) : (ownAssignRecipe press slot s).pending = s.pending := by
  unfold ownAssignRecipe
  repeat' split
  all_goals simp

theorem ownSetHeatMode_pending (press mode : Byte) (standby : Half) (held : Byte) :
    (ownSetHeatMode press mode standby held s).pending = s.pending := by
  unfold ownSetHeatMode
  repeat' split
  all_goals simp

theorem ownReadZones_pending (press : Byte) : (ownReadZones press s).pending = s.pending := by
  unfold ownReadZones
  split <;> simp

theorem ownClearZone_pending (zone : Byte) : (ownClearZone zone s).pending = s.pending := by
  unfold ownClearZone State.toModeState
  repeat' split
  all_goals simp

theorem ownDisableZone_pending (zone : Byte) : (ownDisableZone zone s).pending = s.pending := by
  unfold ownDisableZone
  split <;> simp

theorem ownEnableZone_pending (zone : Byte) : (ownEnableZone zone s).pending = s.pending := by
  unfold ownEnableZone State.toModeState
  repeat' split
  all_goals simp

theorem ownPostOrder_pending (orderTag press : Byte) : (ownPostOrder orderTag press s).pending = s.pending := by
  unfold ownPostOrder
  repeat' split
  all_goals simp

theorem ownCancelOrder_pending (orderTag : Byte) : (ownCancelOrder orderTag s).pending = s.pending := by
  unfold ownCancelOrder
  repeat' split
  all_goals simp

theorem ownZeroScale_pending : (ownZeroScale s).pending = s.pending := by
  unfold ownZeroScale
  split <;> simp

theorem ownLoad_pending (press : Byte) (serial : Word) : (ownLoad press serial s).pending = s.pending := by
  unfold ownLoad
  repeat' split
  all_goals simp

theorem ownClose_pending (press : Byte) : (ownClose press s).pending = s.pending := by
  unfold ownClose
  repeat' split
  all_goals simp

theorem ownOpen_pending (press : Byte) : (ownOpen press s).pending = s.pending := by
  unfold ownOpen
  repeat' split
  all_goals simp

theorem ownAbort_pending (press : Byte) : (ownAbort press s).pending = s.pending := by
  unfold ownAbort
  repeat' split
  all_goals simp

theorem ownRelease_pending (press : Byte) : (ownRelease press s).pending = s.pending := by
  unfold ownRelease
  repeat' split
  all_goals simp

theorem ownClearFault_pending (press : Byte) : (ownClearFault press s).pending = s.pending := by
  unfold ownClearFault
  repeat' split
  all_goals simp

theorem ownReadPress_pending (press : Byte) : (ownReadPress press s).pending = s.pending := by
  unfold ownReadPress
  split <;> simp

theorem ownReadHistory_pending (start : Half) (count : Byte) : (ownReadHistory start count s).pending = s.pending := by
  unfold ownReadHistory
  split <;> simp

theorem ownCollect_pending (n : Half) : (ownCollect n s).pending = s.pending := by
  unfold ownCollect State.collectRecords
  split <;> simp

theorem ownAnnotate_pending (serial : Word) (result inspector : Byte) :
    (ownAnnotate serial result inspector s).pending = s.pending := by
  unfold ownAnnotate State.annotateRecord
  repeat' split
  all_goals simp

theorem ownReadOpen_pending (serial : Word) : (ownReadOpen serial s).pending = s.pending := by
  unfold ownReadOpen
  split <;> simp

theorem ownStore_pending : (ownStore s).pending = s.pending := by
  unfold ownStore
  split <;> simp

theorem ownSnapshotCounters_pending (press clear : Byte) : (ownSnapshotCounters press clear s).pending = s.pending := by
  unfold ownSnapshotCounters
  split <;> simp

theorem ownReadCounters_pending (press : Byte) : (ownReadCounters press s).pending = s.pending := by
  unfold ownReadCounters
  split <;> simp

end Owners

/-! ## The forms a command has -/

/-- The commands that wait are no business of the Link Port's and of the change generation's. -/
theorem blind_pending (q : List Instr) : BlindToLink fun u => u.pending = q := fun _ _ _ h => h

/-- The outcome is a next state, in which the commands that wait are those of `s`. -/
def Completes (o : Host.Outcome State Fault Refusal) (s : State) : Prop := ∃ t, o = .next t ∧ t.pending = s.pending

theorem completes {s t : State} (h : t.pending = s.pending) : Completes (.next t) s := ⟨t, rfl, h⟩

variable {s : State}

/-- A request whose owner leaves the waiting commands alone. -/
theorem completes_request {own : State → State} (hown : ∀ u, (own u).pending = u.pending) {kind tag : Byte}
    {body : List Byte} : Completes (.next (s.serve kind tag body own)) s :=
  completes ((blind_pending s.pending).serve (fun u _ h => (hown u).trans h) rfl kind tag body)

/-- An event of the plant or of a timer, whose act leaves the waiting commands alone. -/
theorem completes_plant {act : State → State} (hact : ∀ u, (act u).pending = u.pending) :
    Completes (.next (plantEvent s act)) s :=
  completes ((blind_pending s.pending).plantEvent (fun u _ h => (hact u).trans h) rfl)

/-- An event of the plant that is an operation of one press. -/
theorem completes_press {p : Fin 4} {act : State → State} (hact : ∀ u, PressOnly p u (act u)) :
    Completes (.next (plantEvent s act)) s := completes_plant fun u => pending_of_press (hact u)

/-- Whatever the line brings changes the Link Port only. -/
theorem completes_line {act : State → State} (hact : ∀ u, (act u).pending = u.pending) :
    Completes (.next (lineEvent s act)) s :=
  completes ((blind_pending s.pending).lineEvent (fun u h => (hact u).trans h) rfl)

/-- An event that acts under a condition, and otherwise changes nothing. -/
theorem completes_ite {c : Prop} [Decidable c] {u : State} (h : u.pending = s.pending) :
    Completes (.next (if c then u else s)) s := by
  refine completes ?_
  split
  · exact h
  · rfl

/-- An event at the inputs of one press (R71). -/
theorem completes_input (p : Fin 4) (levels : PressInputs) (guardRise : Bool) :
    Completes (.next (inputEvent p levels guardRise s)) s := by
  unfold inputEvent
  dsimp only
  split
  · exact completes_plant fun u => settled_pending u p
  · exact completes rfl

theorem completes_guardOkFall : Completes (execGuardOkFall s) s := by
  refine completes ?_
  split
  · rw [State.pump_pending, guardFalls_pending]
  · rfl

theorem completes_transmitComplete : Completes (execTransmitComplete s) s := by
  refine completes ?_
  split <;> simp

theorem completes_storeComplete : Completes (execStoreComplete s) s := by
  refine completes ?_
  split
  · exact storeCompletes_pending s _
  · rfl

/-! ## Every command -/

theorem exec_completes (c : Instr) (s : State) : Completes (exec c s) s :=
  match c with
  | .identify _ => completes_request (own := ownIdentify) fun u => State.answer_pending u _ _
  | .cellStatus _ => completes_request (own := ownCellStatus) fun u => State.answer_pending u _ _
  | .restart _ => completes_request (own := ownRestart) fun u => State.answer_pending u _ _
  | .setClock _ seconds => completes_request (own := ownSetClock seconds) fun _ => State.answer_pending _ _ _
  | .readClock _ => completes_request (own := ownReadClock) fun u => State.answer_pending u _ _
  | .readEvents _ => completes_request (own := ownReadEvents) fun _ => State.answer_pending _ _ _
  | .maskEvents _ mode kinds => completes_request fun u => ownMaskEvents_pending u mode kinds
  | .getSetting _ ident => completes_request fun u => ownGetSetting_pending u ident
  | .setSetting _ ident value => completes_request fun u => ownSetSetting_pending u ident value
  | .setTuning _ zone kp ki => completes_request fun u => ownSetTuning_pending u zone kp ki
  | .writeRecipe _ slot recipe => completes_request fun u => ownWriteRecipe_pending u slot recipe
  | .readRecipe _ slot => completes_request fun u => ownReadRecipe_pending u slot
  | .assignRecipe _ press slot => completes_request fun u => ownAssignRecipe_pending u press slot
  | .setHeatMode _ press mode standby held =>
    completes_request fun u => ownSetHeatMode_pending u press mode standby held
  | .readZones _ press => completes_request fun u => ownReadZones_pending u press
  | .clearZone _ zone => completes_request fun u => ownClearZone_pending u zone
  | .disableZone _ zone => completes_request fun u => ownDisableZone_pending u zone
  | .enableZone _ zone => completes_request fun u => ownEnableZone_pending u zone
  | .postOrder _ orderTag press => completes_request fun u => ownPostOrder_pending u orderTag press
  | .cancelOrder _ orderTag => completes_request fun u => ownCancelOrder_pending u orderTag
  | .zeroScale _ => completes_request ownZeroScale_pending
  | .readScale _ => completes_request (own := ownReadScale) fun u => State.answer_pending u _ _
  | .load _ press serial => completes_request fun u => ownLoad_pending u press serial
  | .close _ press => completes_request fun u => ownClose_pending u press
  | .openPress _ press => completes_request fun u => ownOpen_pending u press
  | .abort _ press => completes_request fun u => ownAbort_pending u press
  | .release _ press => completes_request fun u => ownRelease_pending u press
  | .clearFault _ press => completes_request fun u => ownClearFault_pending u press
  | .readPress _ press => completes_request fun u => ownReadPress_pending u press
  | .readHistory _ start count => completes_request fun u => ownReadHistory_pending u start count
  | .collect _ n => completes_request fun u => ownCollect_pending u n
  | .annotate _ serial result inspector => completes_request fun u => ownAnnotate_pending u serial result inspector
  | .readOpen _ serial => completes_request fun u => ownReadOpen_pending u serial
  | .store _ => completes_request ownStore_pending
  | .snapshotCounters _ press clear => completes_request fun u => ownSnapshotCounters_pending u press clear
  | .readCounters _ press => completes_request fun u => ownReadCounters_pending u press
  | .goodFrame _ _ _ => completes_line fun u => hear_pending u _
  | .badCrcFrame _ _ _ _ => completes_line fun u => hear_pending u _
  | .overLengthFrame _ _ _ _ => completes_line fun u => hear_pending u _
  | .interbyteGapTimeout _ => completes_line fun u => (gap_pending _).trans (hear_pending u _)
  | .framingError _ => completes_line fun u => (abandonFrame_pending _).trans (hear_pending u _)
  | .transmitComplete => completes_transmitComplete
  | .thermocoupleReading zone reading =>
    completes_ite ((State.pump_pending _).trans (takeReading_pending s zone reading))
  | .heatFrameBoundary => completes_plant boundary_pending
  | .heaterSlot => completes_ite rfl
  | .goodSample count => completes_plant fun u => (onSample_pending _).trans (windowed_pending u count)
  | .faultedSample => completes_plant faultSample_pending
  | .settleTimeout => completes_plant settleExpires_pending
  | .ticketPotLifeExpiry _ serial => completes_press fun u => .expireTicket u serial.toNat
  | .boundPotLifeExpiry _ => completes_press .expireBound
  | .curingConditionMet _ _ _ => completes_input ..
  | .pressureDip _ _ _ _ => completes_input ..
  | .guardOkFall => completes_guardOkFall
  | .openLimitMet _ _ _ => completes_input ..
  | .ejectOutMet _ _ _ => completes_input ..
  | .ejectHomeMet _ _ _ => completes_input ..
  | .openLimitDrift _ _ _ => completes_input ..
  | .keyChange _ => completes rfl
  | .closeTimerExpiry _ => completes_press .closeExpires
  | .openTimerExpiry _ => completes_press .openExpires
  | .strokeTimerExpiry _ => completes_press .strokeExpires
  | .minimumOpenExpiry _ => completes_press .minOpenElapses
  | .storeComplete => completes_storeComplete
  | .periodicStoreExpiry => completes_plant periodicExpires_pending
  | .pfailRise => completes (pfailRises_pending s)
  | .powerOnReset pfail => completes (powerOnReset_pending s pfail)
  | .recallComplete => completes_ite ((State.pump_pending _).trans (completeRecall_pending s))
  | .resetLineLow => completes_ite (beginWarm_pending s)
  | .resetLineHigh => completes_ite ((State.pump_pending _).trans (completeWarm_pending s))
  | .clockTick => completes_ite rfl
  | .pressureDipEnd _ _ _ => completes_input ..
  | .supplyLost => completes rfl

/-- Settles O2: every arm of `exec` is one of the forms above. -/
theorem everyCommandCompletesAndLeavesTheQueue : Obligations.EveryCommandCompletesAndLeavesTheQueue := by
  unfold Obligations.EveryCommandCompletesAndLeavesTheQueue
  exact exec_completes

end Sys2Proof.Machine.CommandQueue

/-!
PROOF. The step on a queue with a command at its front (O1).
-/

namespace Sys2Proof.Machine.CommandQueue

/-- The step on a queue that is not empty; the empty queue's is `anIdleStepPassesOneMillisecond`. -/
theorem step_of_pending_cons {s : State} {c : Instr} {rest : List Instr} (waits : s.pending = c :: rest) :
    step s = exec c { s with pending := rest } := by
  rw [step, waits]

/-- Settles O1: the front command waits, and what is left of the queue replaces it. -/
theorem stepRunsTheFrontCommand : Obligations.StepRunsTheFrontCommand := by
  unfold Obligations.StepRunsTheFrontCommand
  intro c rest s
  have waits : { s with pending := c :: rest }.pending = c :: rest := rfl
  exact step_of_pending_cons waits

end Sys2Proof.Machine.CommandQueue
